-- ==== Sys2Proof/Word.lean ====
section
/-! DEFINITION. The word types of the CORE: the 8-bit byte, the 16-bit word that is also an address, and the 5-bit interrupt set of IE and IF (R6, R8, R60). -/

namespace Sys2Proof

/-- `u8` of R8: an unsigned 8-bit value, the unit of addressing and of transfer (R60). -/
abbrev Byte := BitVec 8

/-- `u16` of R8: a register pair, the program counter, the stack pointer, an address (R60). -/
abbrev Word := BitVec 16

/-- Five bits in the format of IE and IF (R41, R42): bit 0 VBlank, 1 LCD, 2 Timer, 3 Serial, 4 Joypad. -/
abbrev IntSet := BitVec 5

end Sys2Proof
end

