-- ==== Sys2Proof/Machine/Bits.lean ====
section
/-! DEFINITION. Bit fields, concatenation, sign extension and byte order (R8, R24, R77). -/

namespace Sys2Proof.Machine

/-- `{hi, lo}` of R8. -/
def joinBytes (hi lo : Byte) : Word := hi ++ lo

/-- `v[15:8]`. -/
def hiByte (v : Word) : Byte := v.extractLsb' 8 8

/-- `v[7:0]`. -/
def loByte (v : Word) : Byte := v.extractLsb' 0 8

/-- `zext_16(b)` of R8. -/
def zext16 (b : Byte) : Word := b.zeroExtend 16

/-- `sext_16(b)` of R8. -/
def sext16 (b : Byte) : Word := b.signExtend 16

/-- A Boolean as the 0 or 1 that R8 lets it stand for. -/
def bitOf (c : Bool) : Byte := if c then 1 else 0

/-- `0xFF00 + b`, the high-memory address of R143 to R146: no carry into the high byte. -/
def highAddr (b : Byte) : Word := 0xFF00 + zext16 b

end Sys2Proof.Machine
end

