-- ==== Sys2Proof/Machine/Selectors.lean ====
section
/-! DEFINITION. Operand selectors and their codes (R30, R104 to R107), and the instruction kinds: the tagged variant of R30 and R115, each kind with the operands it carries. -/

namespace Sys2Proof.Machine

/-- The seven registers an 8-bit selector can name, in the order of their codes (R104). -/
inductive Reg8 where
  | b | c | d | e | h | l | a
deriving DecidableEq, Repr

/-- A place an 8-bit operand can be read from and written to: a register or the indirect-HL byte (R11). -/
inductive Loc8 where
  | reg (r : Reg8)
  | atHL
deriving DecidableEq, Repr

/-- An 8-bit source operand: a register, the indirect-HL byte or immediate8 (R11, R30). -/
inductive Src8 where
  | reg (r : Reg8)
  | atHL
  | imm (n : Byte)
deriving DecidableEq, Repr

/-- The pairs of table `xx` (R105). -/
inductive Pair where
  | bc | de | hl | sp
deriving DecidableEq, Repr

/-- The pairs of table `xs`, for PUSH and POP (R105). -/
inductive StackPair where
  | bc | de | hl | af
deriving DecidableEq, Repr

/-- The pair an accumulator load goes through without changing it (R135 to R138). -/
inductive IndPair where
  | bc | de
deriving DecidableEq, Repr

/-- What an accumulator load through HL does to HL afterwards (R139 to R142). -/
inductive PostStep where
  | inc | dec
deriving DecidableEq, Repr

/-- The jump conditions that have a code (R106). -/
inductive Cond where
  | nz | z | nc | c
deriving DecidableEq, Repr

/-- The eight accumulator operations in the order of their codes (R180). -/
inductive AluOp where
  | add | adc | sub | sbc | and | xor | or | cp
deriving DecidableEq, Repr

/-- The four accumulator rotates in the order of their codes (R220 to R223). -/
inductive AccRot where
  | rlca | rrca | rla | rra
deriving DecidableEq, Repr

/-- The eight rotates and shifts of the secondary table in the order of their codes (R110). -/
inductive CbRot where
  | rlc | rrc | rl | rr | sla | sra | swap | srl
deriving DecidableEq, Repr

/-- The 3-bit selector code of a register (R104). -/
def Reg8.code : Reg8 → BitVec 3
  | .b => 0 | .c => 1 | .d => 2 | .e => 3 | .h => 4 | .l => 5 | .a => 7

/-- The 3-bit selector code of a register or the indirect-HL byte, code 6 (R104). -/
def Loc8.code : Loc8 → BitVec 3
  | .reg r => r.code
  | .atHL => 6

/-- The operand a 3-bit selector code names (R104). -/
def Loc8.ofCode (c : BitVec 3) : Loc8 :=
  match c.toNat with
  | 0 => .reg .b | 1 => .reg .c | 2 => .reg .d | 3 => .reg .e
  | 4 => .reg .h | 5 => .reg .l | 6 => .atHL | _ => .reg .a

/-- A writable operand as a source. -/
def Loc8.src : Loc8 → Src8
  | .reg r => .reg r
  | .atHL => .atHL

/-- The 2-bit code of a pair of table `xx` (R105). -/
def Pair.code : Pair → BitVec 2
  | .bc => 0 | .de => 1 | .hl => 2 | .sp => 3

/-- The 2-bit code of a pair of table `xs` (R105). -/
def StackPair.code : StackPair → BitVec 2
  | .bc => 0 | .de => 1 | .hl => 2 | .af => 3

/-- Field p of the accumulator loads through BC and DE (R108). -/
def IndPair.code : IndPair → BitVec 2
  | .bc => 0 | .de => 1

/-- Field p of the accumulator loads through HL with a post-step (R108). -/
def PostStep.code : PostStep → BitVec 2
  | .inc => 2 | .dec => 3

/-- The 2-bit condition code (R106). -/
def Cond.code : Cond → BitVec 2
  | .nz => 0 | .z => 1 | .nc => 2 | .c => 3

/-- Field y of an accumulator operation (R108, R180). -/
def AluOp.code : AluOp → BitVec 3
  | .add => 0 | .adc => 1 | .sub => 2 | .sbc => 3 | .and => 4 | .xor => 5 | .or => 6 | .cp => 7

/-- Field y of an accumulator rotate (R108). -/
def AccRot.code : AccRot → BitVec 3
  | .rlca => 0 | .rrca => 1 | .rla => 2 | .rra => 3

/-- Field y of a secondary-table rotate or shift (R110). -/
def CbRot.code : CbRot → BitVec 3
  | .rlc => 0 | .rrc => 1 | .rl => 2 | .rr => 3 | .sla => 4 | .sra => 5 | .swap => 6 | .srl => 7

/-- `rot[y]` of R110. -/
def CbRot.ofCode (y : BitVec 3) : CbRot :=
  match y.toNat with
  | 0 => .rlc | 1 => .rrc | 2 => .rl | 3 => .rr | 4 => .sla | 5 => .sra | 6 => .swap | _ => .srl

/-- The instruction kinds (R30: "a tagged variant over ~40 operation kinds, each carrying zero to two operands"). Each rule
of the instruction files is one kind or one case of a kind; the 502 rows of the opcode table are these kinds at each operand. -/
inductive Kind where
  /-- R130 `LD r,r'` -/
  | ldRegReg (dst src : Reg8)
  /-- R131 `LD r,n` -/
  | ldRegImm (dst : Reg8) (n : Byte)
  /-- R132 `LD r,(HL)` -/
  | ldRegHL (dst : Reg8)
  /-- R133 `LD (HL),r` -/
  | ldHLReg (src : Reg8)
  /-- R134 `LD (HL),n` -/
  | ldHLImm (n : Byte)
  /-- R135, R136 `LD A,(BC)`, `LD A,(DE)` -/
  | ldAPair (p : IndPair)
  /-- R137, R138 `LD (BC),A`, `LD (DE),A` -/
  | ldPairA (p : IndPair)
  /-- R139, R140 `LD A,(HL+)`, `LD A,(HL-)` -/
  | ldAHLPost (k : PostStep)
  /-- R141, R142 `LD (HL+),A`, `LD (HL-),A` -/
  | ldHLPostA (k : PostStep)
  /-- R143 `LDH (n),A` -/
  | ldhImmA (n : Byte)
  /-- R144 `LDH A,(n)` -/
  | ldhAImm (n : Byte)
  /-- R145 `LD (C),A` -/
  | ldhCA
  /-- R146 `LD A,(C)` -/
  | ldhAC
  /-- R147 `LD (nn),A` -/
  | ldAbsA (nn : Word)
  /-- R148 `LD A,(nn)` -/
  | ldAAbs (nn : Word)
  /-- R160 `LD rr,nn` -/
  | ldPairImm (p : Pair) (nn : Word)
  /-- R161 `LD (nn),SP` -/
  | ldAbsSP (nn : Word)
  /-- R162 `LD SP,HL` -/
  | ldSPHL
  /-- R163 `LD HL,SP+e` -/
  | ldHLSPe (e : Byte)
  /-- R164 `PUSH rr` -/
  | push (q : StackPair)
  /-- R165, R166 `POP rr`, `POP AF` -/
  | pop (q : StackPair)
  /-- R167 `ADD SP,e` -/
  | addSPe (e : Byte)
  /-- R181 to R188, the accumulator operations -/
  | alu (k : AluOp) (v : Src8)
  /-- R189, R190 `INC r`, `INC (HL)` -/
  | inc8 (d : Loc8)
  /-- R191, R192 `DEC r`, `DEC (HL)` -/
  | dec8 (d : Loc8)
  /-- R193 `DAA` -/
  | daa
  /-- R194 `CPL` -/
  | cpl
  /-- R195 `SCF` -/
  | scf
  /-- R196 `CCF` -/
  | ccf
  /-- R210 `ADD HL,rr` -/
  | addHL (p : Pair)
  /-- R211 `INC rr` -/
  | incPair (p : Pair)
  /-- R212 `DEC rr` -/
  | decPair (p : Pair)
  /-- R220 to R223, the accumulator rotates -/
  | accRotate (k : AccRot)
  /-- R225 to R232, the rotates and shifts under 0xCB -/
  | cbRotate (k : CbRot) (d : Loc8)
  /-- R233 `BIT b,s` -/
  | bitTest (n : BitVec 3) (d : Loc8)
  /-- R234 `RES b,s` -/
  | bitReset (n : BitVec 3) (d : Loc8)
  /-- R235 `SET b,s` -/
  | bitSet (n : BitVec 3) (d : Loc8)
  /-- R251 `JP nn` -/
  | jp (nn : Word)
  /-- R252 `JP cc,nn` -/
  | jpCond (cc : Cond) (nn : Word)
  /-- R253 `JP HL` -/
  | jpHL
  /-- R254 `JR e` -/
  | jr (e : Byte)
  /-- R255 `JR cc,e` -/
  | jrCond (cc : Cond) (e : Byte)
  /-- R256 `CALL nn` -/
  | call (nn : Word)
  /-- R257 `CALL cc,nn` -/
  | callCond (cc : Cond) (nn : Word)
  /-- R258 `RET` -/
  | ret
  /-- R259 `RET cc` -/
  | retCond (cc : Cond)
  /-- R260 `RETI` -/
  | reti
  /-- R261 `RST t`, `y` the field with `t = y * 8` -/
  | rst (y : BitVec 3)
  /-- R270 `NOP` -/
  | nop
  /-- R271 `HALT` -/
  | halt
  /-- R272 `STOP`, with its padding byte -/
  | stop (pad : Byte)
  /-- R273 `DI` -/
  | di
  /-- R274 `EI` -/
  | ei
  /-- R275, the byte 0xCB as the primary table lists it, with the secondary opcode that follows it -/
  | cbPrefix (op2 : Byte)
  /-- R276, an unmapped opcode -/
  | illegal (op : Byte)
deriving DecidableEq, Repr

end Sys2Proof.Machine
end

