-- ==== Sys2Proof/Config.lean ====
section
/-! DEFINITION. What is fixed for one machine (the named parameters of R7, as plain data with the spec's defaults) and the one free value: the byte an external I/O read answers (R86). -/

namespace Sys2Proof

/-- `ROM_WRITE_POLICY` of R7 and R85: what a write to 0x0000-0x7FFF does. -/
inductive RomWritePolicy where
  /-- The write has no effect on any state (the default). -/
  | ignore
  /-- The write raises `Fatal(RomWrite, addr)`. -/
  | fault
deriving DecidableEq, Repr

/-- One access to the external I/O port (R86), as the collaborators outside the block see it. -/
inductive IoEvent where
  /-- `IoPort.read(addr)` was made. -/
  | read (addr : Word)
  /-- `IoPort.write(addr, v)` was made. -/
  | write (addr : Word) (v : Byte)
deriving DecidableEq, Repr

/-- The byte `IoPort.read(addr)` answers (R86: "a read may return any byte"), given every access made to the port before it,
the newest first. A FREE VALUE: it has no body, so nothing can be proved of its value (assumption log 1). -/
opaque Config.ioRead : List IoEvent → Word → Byte

/-- `RESET_REGS` of R7: the contents of A, B, C, D, E, H, L, the four flags and sp after reset (R20, R21, R26).
The defaults are the spec's, which leaves the values OPEN (D22, R382; assumption log 4). -/
structure ResetRegs where
  a : Byte := 0
  b : Byte := 0
  c : Byte := 0
  d : Byte := 0
  e : Byte := 0
  h : Byte := 0
  l : Byte := 0
  fZ : Bool := false
  fN : Bool := false
  fH : Bool := false
  fC : Bool := false
  sp : Word := 0
deriving DecidableEq, Repr

/-- `INIT_MEM` of R7: the contents of the five memories after reset (R33 to R37), each a list of (offset, byte) in the
canonical form of Machine/Memory.lean; an offset not listed holds 0x00. -/
structure InitMem where
  wram : List Host.Cell := []
  eram : List Host.Cell := []
  hram : List Host.Cell := []
  vram : List Host.Cell := []
  oam  : List Host.Cell := []
deriving DecidableEq, Repr

/-- `CYCLES` of R7, a function of the instruction (its kind with its operands, R30) and of whether a condition held, as
plain data: the counts that differ from the table of R395, the first entry for a pair being the one that counts, and the
two counts of a step that executes no instruction. Instructions are finitely many, so every function has such a list
(`CycleTable.count_of_list`, Laws/Cycles.lean); the default is R395's table. -/
structure CycleTable where
  /-- ((instruction, taken), count); a pair that is not listed has the count of R395. -/
  listed : List ((Machine.Kind × Bool) × Nat) := []
  /-- Interrupt dispatch (R354, R395). -/
  dispatch : Nat := 20
  /-- Halted idle step (R341, R395). -/
  idle : Nat := 4
deriving DecidableEq, Repr

/-- The named parameters of R7. They are fixed when the block is constructed (R31, R381): no instruction and no step
changes them, and reset keeps them (R380). State carries them so that one step function covers every parameter value. -/
structure Params where
  /-- `BOOT_ROM`: the 256 bytes read while the overlay is on (R62), as (offset, byte); an offset not listed holds 0x00. -/
  bootRom : List Host.Cell := []
  /-- `CART_ROM`: offsets 0x0000 to 0x7FFF of the cartridge image (R63, R64); an offset not listed holds 0x00. -/
  cartRom : List Host.Cell := []
  /-- `RESET_REGS`. -/
  resetRegs : ResetRegs := {}
  /-- `INIT_MEM`. -/
  initMem : InitMem := {}
  /-- `CYCLES`. -/
  cycles : CycleTable := {}
  /-- `ROM_WRITE_POLICY`. -/
  romWrite : RomWritePolicy := .ignore
  /-- `STOP_STALLS`: whether a stopped engine stops stepping (R367). -/
  stopStalls : Bool := false
  /-- `INT_UPPER_BITS`: what bits 7..5 of IE and IF read as (R41, R42). -/
  intUpperBits : BitVec 3 := 0
deriving DecidableEq, Repr

end Sys2Proof
end

