-- ==== Sys2Proof/Machine/Memory.lean ====
section
/-! DEFINITION. Storage as sorted lists in one canonical form: keys strictly rising, no entry equal to what an unlisted key holds. The RAM arrays, the ROM images, the tile cache and the object entries are all of this form. -/

namespace Sys2Proof.Machine

/-- Sparse storage: (key, value) pairs. What an unlisted key holds is given to each operation as `dflt`. -/
abbrev Cells (α : Type) := List (Nat × α)

/-- The value stored under key `k`. -/
def Cells.read {α : Type} (dflt : α) : Cells α → Nat → α
  | [], _ => dflt
  | (k', v) :: m, k => if k = k' then v else Cells.read dflt m k

/-- Stores `v` under key `k`, keeping the canonical form: storing `dflt` removes the entry. -/
def Cells.write {α : Type} [DecidableEq α] (dflt : α) : Cells α → Nat → α → Cells α
  | [], k, v => if v = dflt then [] else [(k, v)]
  | (k', v') :: m, k, v =>
    if k < k' then (if v = dflt then (k', v') :: m else (k, v) :: (k', v') :: m)
    else if k = k' then (if v = dflt then m else (k, v) :: m)
    else (k', v') :: Cells.write dflt m k v

/-- The canonical form: keys strictly rising, and no entry holding `dflt`. -/
def Cells.wf {α : Type} [DecidableEq α] (dflt : α) : Cells α → Bool
  | [] => true
  | [(_, v)] => decide (v ≠ dflt)
  | (k, v) :: (k', v') :: m => decide (v ≠ dflt) && decide (k < k') && Cells.wf dflt ((k', v') :: m)

/-- Byte storage: an array of bytes keyed by offset (R33 to R37) or a ROM image (R31). -/
abbrev Memory := List Host.Cell

/-- What an offset that is not listed reads as: 0x00, the default of `INIT_MEM` (R33 to R37; assumption log 5). -/
def unlistedByte : Byte := 0

/-- The byte at offset `k`. -/
def Memory.read (m : Memory) (k : Nat) : Byte := Cells.read unlistedByte m k

/-- Stores byte `v` at offset `k`. -/
def Memory.write (m : Memory) (k : Nat) (v : Byte) : Memory := Cells.write unlistedByte m k v

/-- The canonical form of byte storage. -/
def Memory.wf (m : Memory) : Bool := Cells.wf unlistedByte m

/-- A byte list laid out from offset `k` on (a ROM image handed over at construction, R381). -/
def Memory.load : Memory → Nat → List Byte → Memory
  | m, _, [] => m
  | m, k, b :: bs => Memory.load (Memory.write m k b) (k + 1) bs

end Sys2Proof.Machine
end

