-- ==== Sys2Proof/Machine/Tiles.lean ====
section
/-! DEFINITION. The tile cache and the object entries: what one row and one entry hold, and how each is derived from the raw bytes (R38, R39, R294, R295, R298). -/

namespace Sys2Proof.Machine

/-- One row of a tile: eight 2-bit pixels, column 0 leftmost (R294). -/
structure TileRow where
  p0 : BitVec 2
  p1 : BitVec 2
  p2 : BitVec 2
  p3 : BitVec 2
  p4 : BitVec 2
  p5 : BitVec 2
  p6 : BitVec 2
  p7 : BitVec 2
deriving DecidableEq, Repr

/-- One object entry: raw y and x, size-masked tile index, flags nibble (R39). -/
structure ObjectEntry where
  y : Byte
  x : Byte
  tile : Byte
  flags : BitVec 4
deriving DecidableEq, Repr

/-- A row of zero pixels: the row an all-zero byte pair gives, and what an unlisted row holds. -/
def zeroRow : TileRow := ⟨0, 0, 0, 0, 0, 0, 0, 0⟩

/-- An entry with every field 0 (R39, reset value): what an unlisted slot holds. -/
def zeroObject : ObjectEntry := ⟨0, 0, 0, 0⟩

/-- The pixel of column `col`, 0 to 7 (R294). -/
def TileRow.col (r : TileRow) : Fin 8 → BitVec 2
  | 0 => r.p0 | 1 => r.p1 | 2 => r.p2 | 3 => r.p3 | 4 => r.p4 | 5 => r.p5 | 6 => r.p6 | 7 => r.p7

/-- One pixel of R295: the odd byte's bit is the high bit, the even byte's the low bit. -/
def tilePixel (b0 b1 : Byte) (col : Nat) : BitVec 2 :=
  BitVec.ofBool (b1.getLsbD (7 - col)) ++ BitVec.ofBool (b0.getLsbD (7 - col))

/-- `TileRow(b0, b1)` of R295, `b0` the even byte and `b1` the odd byte of the row's pair. -/
def tileRow (b0 b1 : Byte) : TileRow :=
  ⟨tilePixel b0 b1 0, tilePixel b0 b1 1, tilePixel b0 b1 2, tilePixel b0 b1 3,
   tilePixel b0 b1 4, tilePixel b0 b1 5, tilePixel b0 b1 6, tilePixel b0 b1 7⟩

/-- The key under which row `row` of tile `t` is kept: `tiles[t][row]` of R294. -/
def tileKey (t row : Nat) : Nat := 8 * t + row

/-- The row of tile `t` that the current VRAM bytes give: its pair lies at offsets `16*t + 2*row` and the next (R294). -/
def tileRowOf (vram : Memory) (t row : Nat) : TileRow :=
  tileRow (vram.read (16 * t + 2 * row)) (vram.read (16 * t + 2 * row + 1))

/-- Re-derives the one row that VRAM offset `i` belongs to, if it lies in the first 0x1800 bytes (R292). -/
def refreshTile (vram : Memory) (tiles : Cells TileRow) (i : Nat) : Cells TileRow :=
  if i < 0x1800 then
    Cells.write zeroRow tiles (tileKey (i / 16) (i % 16 / 2)) (tileRowOf vram (i / 16) (i % 16 / 2))
  else tiles

/-- `tiles` as the function of `vram` that reset sets it to (R296, R380). -/
def tilesOf (vram : Memory) : Cells TileRow :=
  vram.foldl (fun ts cell => refreshTile vram ts cell.1) []

/-- Record `k` of OAM decoded (R298), with the tile index masked to an even value in 8x16 mode (R299). -/
def decodeObject (oam : Memory) (size16 : Bool) (k : Nat) : ObjectEntry where
  y := oam.read (4 * k)
  x := oam.read (4 * k + 1)
  tile := oam.read (4 * k + 2) &&& (if size16 then 0xFE else 0xFF)
  flags := (oam.read (4 * k + 3)).extractLsb' 4 4

end Sys2Proof.Machine
end

