-- ==== Sys2Proof/Syntax.lean ====
section
/-! DEFINITION. The instructions: one constructor for each mnemonic of spec/opcode_table.json (R109, R110, R117), named by the row it stands for, with the immediate bytes the row's format carries (R101, R103). -/

namespace Sys2Proof

/-- The instructions of the CORE. `n` is an unsigned 8-bit immediate, `e` a signed displacement byte, `nn` a 16-bit immediate
(R103); `at…` in a name is a memory operand: `atHL` is `(HL)`, `atHLinc` is `(HL+)`, `atC` is the byte at 0xFF00+C, `atN` at
0xFF00+n, `atNN` at the absolute address. The forms that carry an immediate stand first, then the table's order. -/
inductive Instr where
  /-- `LD BC,nn` (R160) -/
  | ld_bc_nn (nn : Word)
  /-- `LD B,n` (R131) -/
  | ld_b_n (n : Byte)
  /-- `LD (nn),SP` (R161) -/
  | ld_atNN_sp (nn : Word)
  /-- `LD C,n` (R131) -/
  | ld_c_n (n : Byte)
  /-- `STOP` (R272), `pad` its second byte -/
  | stop (pad : Byte)
  /-- `LD DE,nn` (R160) -/
  | ld_de_nn (nn : Word)
  /-- `LD D,n` (R131) -/
  | ld_d_n (n : Byte)
  /-- `JR e` (R254) -/
  | jr_e (e : Byte)
  /-- `LD E,n` (R131) -/
  | ld_e_n (n : Byte)
  /-- `JR NZ,e` (R255) -/
  | jr_nz_e (e : Byte)
  /-- `LD HL,nn` (R160) -/
  | ld_hl_nn (nn : Word)
  /-- `LD H,n` (R131) -/
  | ld_h_n (n : Byte)
  /-- `JR Z,e` (R255) -/
  | jr_z_e (e : Byte)
  /-- `LD L,n` (R131) -/
  | ld_l_n (n : Byte)
  /-- `JR NC,e` (R255) -/
  | jr_nc_e (e : Byte)
  /-- `LD SP,nn` (R160) -/
  | ld_sp_nn (nn : Word)
  /-- `LD (HL),n` (R134) -/
  | ld_atHL_n (n : Byte)
  /-- `JR C,e` (R255) -/
  | jr_c_e (e : Byte)
  /-- `LD A,n` (R131) -/
  | ld_a_n (n : Byte)
  /-- `JP NZ,nn` (R252) -/
  | jp_nz_nn (nn : Word)
  /-- `JP nn` (R251) -/
  | jp_nn (nn : Word)
  /-- `CALL NZ,nn` (R257) -/
  | call_nz_nn (nn : Word)
  /-- `ADD A,n` (R181) -/
  | add_a_n (n : Byte)
  /-- `JP Z,nn` (R252) -/
  | jp_z_nn (nn : Word)
  /-- the byte 0xCB of the primary table (R275): with `op2`, the secondary opcode that follows it -/
  | cbPrefix (op2 : Byte)
  /-- `CALL Z,nn` (R257) -/
  | call_z_nn (nn : Word)
  /-- `CALL nn` (R256) -/
  | call_nn (nn : Word)
  /-- `ADC A,n` (R182) -/
  | adc_a_n (n : Byte)
  /-- `JP NC,nn` (R252) -/
  | jp_nc_nn (nn : Word)
  /-- an unmapped opcode (R112, R276): `op` is the byte -/
  | illegal (op : Byte)
  /-- `CALL NC,nn` (R257) -/
  | call_nc_nn (nn : Word)
  /-- `SUB n` (R183) -/
  | sub_n (n : Byte)
  /-- `JP C,nn` (R252) -/
  | jp_c_nn (nn : Word)
  /-- `CALL C,nn` (R257) -/
  | call_c_nn (nn : Word)
  /-- `SBC A,n` (R184) -/
  | sbc_a_n (n : Byte)
  /-- `LDH (n),A` (R143) -/
  | ldh_atN_a (n : Byte)
  /-- `AND n` (R185) -/
  | and_n (n : Byte)
  /-- `ADD SP,e` (R167) -/
  | add_sp_e (e : Byte)
  /-- `LD (nn),A` (R147) -/
  | ld_atNN_a (nn : Word)
  /-- `XOR n` (R186) -/
  | xor_n (n : Byte)
  /-- `LDH A,(n)` (R144) -/
  | ldh_a_atN (n : Byte)
  /-- `OR n` (R187) -/
  | or_n (n : Byte)
  /-- `LD HL,SP+e` (R163) -/
  | ld_hl_spE (e : Byte)
  /-- `LD A,(nn)` (R148) -/
  | ld_a_atNN (nn : Word)
  /-- `CP n` (R188) -/
  | cp_n (n : Byte)
  /-- `NOP` (R270) -/
  | nop
  /-- `LD (BC),A` (R137) -/
  | ld_atBC_a
  /-- `INC BC` (R211) -/
  | inc_bc
  /-- `INC B` (R189) -/
  | inc_b
  /-- `DEC B` (R191) -/
  | dec_b
  /-- `RLCA` (R220) -/
  | rlca
  /-- `ADD HL,BC` (R210) -/
  | add_hl_bc
  /-- `LD A,(BC)` (R135) -/
  | ld_a_atBC
  /-- `DEC BC` (R212) -/
  | dec_bc
  /-- `INC C` (R189) -/
  | inc_c
  /-- `DEC C` (R191) -/
  | dec_c
  /-- `RRCA` (R221) -/
  | rrca
  /-- `LD (DE),A` (R138) -/
  | ld_atDE_a
  /-- `INC DE` (R211) -/
  | inc_de
  /-- `INC D` (R189) -/
  | inc_d
  /-- `DEC D` (R191) -/
  | dec_d
  /-- `RLA` (R222) -/
  | rla
  /-- `ADD HL,DE` (R210) -/
  | add_hl_de
  /-- `LD A,(DE)` (R136) -/
  | ld_a_atDE
  /-- `DEC DE` (R212) -/
  | dec_de
  /-- `INC E` (R189) -/
  | inc_e
  /-- `DEC E` (R191) -/
  | dec_e
  /-- `RRA` (R223) -/
  | rra
  /-- `LD (HL+),A` (R141) -/
  | ld_atHLinc_a
  /-- `INC HL` (R211) -/
  | inc_hl
  /-- `INC H` (R189) -/
  | inc_h
  /-- `DEC H` (R191) -/
  | dec_h
  /-- `DAA` (R193) -/
  | daa
  /-- `ADD HL,HL` (R210) -/
  | add_hl_hl
  /-- `LD A,(HL+)` (R139) -/
  | ld_a_atHLinc
  /-- `DEC HL` (R212) -/
  | dec_hl
  /-- `INC L` (R189) -/
  | inc_l
  /-- `DEC L` (R191) -/
  | dec_l
  /-- `CPL` (R194) -/
  | cpl
  /-- `LD (HL-),A` (R142) -/
  | ld_atHLdec_a
  /-- `INC SP` (R211) -/
  | inc_sp
  /-- `INC (HL)` (R190) -/
  | inc_atHL
  /-- `DEC (HL)` (R192) -/
  | dec_atHL
  /-- `SCF` (R195) -/
  | scf
  /-- `ADD HL,SP` (R210) -/
  | add_hl_sp
  /-- `LD A,(HL-)` (R140) -/
  | ld_a_atHLdec
  /-- `DEC SP` (R212) -/
  | dec_sp
  /-- `INC A` (R189) -/
  | inc_a
  /-- `DEC A` (R191) -/
  | dec_a
  /-- `CCF` (R196) -/
  | ccf
  /-- `LD B,B` (R130) -/
  | ld_b_b
  /-- `LD B,C` (R130) -/
  | ld_b_c
  /-- `LD B,D` (R130) -/
  | ld_b_d
  /-- `LD B,E` (R130) -/
  | ld_b_e
  /-- `LD B,H` (R130) -/
  | ld_b_h
  /-- `LD B,L` (R130) -/
  | ld_b_l
  /-- `LD B,(HL)` (R132) -/
  | ld_b_atHL
  /-- `LD B,A` (R130) -/
  | ld_b_a
  /-- `LD C,B` (R130) -/
  | ld_c_b
  /-- `LD C,C` (R130) -/
  | ld_c_c
  /-- `LD C,D` (R130) -/
  | ld_c_d
  /-- `LD C,E` (R130) -/
  | ld_c_e
  /-- `LD C,H` (R130) -/
  | ld_c_h
  /-- `LD C,L` (R130) -/
  | ld_c_l
  /-- `LD C,(HL)` (R132) -/
  | ld_c_atHL
  /-- `LD C,A` (R130) -/
  | ld_c_a
  /-- `LD D,B` (R130) -/
  | ld_d_b
  /-- `LD D,C` (R130) -/
  | ld_d_c
  /-- `LD D,D` (R130) -/
  | ld_d_d
  /-- `LD D,E` (R130) -/
  | ld_d_e
  /-- `LD D,H` (R130) -/
  | ld_d_h
  /-- `LD D,L` (R130) -/
  | ld_d_l
  /-- `LD D,(HL)` (R132) -/
  | ld_d_atHL
  /-- `LD D,A` (R130) -/
  | ld_d_a
  /-- `LD E,B` (R130) -/
  | ld_e_b
  /-- `LD E,C` (R130) -/
  | ld_e_c
  /-- `LD E,D` (R130) -/
  | ld_e_d
  /-- `LD E,E` (R130) -/
  | ld_e_e
  /-- `LD E,H` (R130) -/
  | ld_e_h
  /-- `LD E,L` (R130) -/
  | ld_e_l
  /-- `LD E,(HL)` (R132) -/
  | ld_e_atHL
  /-- `LD E,A` (R130) -/
  | ld_e_a
  /-- `LD H,B` (R130) -/
  | ld_h_b
  /-- `LD H,C` (R130) -/
  | ld_h_c
  /-- `LD H,D` (R130) -/
  | ld_h_d
  /-- `LD H,E` (R130) -/
  | ld_h_e
  /-- `LD H,H` (R130) -/
  | ld_h_h
  /-- `LD H,L` (R130) -/
  | ld_h_l
  /-- `LD H,(HL)` (R132) -/
  | ld_h_atHL
  /-- `LD H,A` (R130) -/
  | ld_h_a
  /-- `LD L,B` (R130) -/
  | ld_l_b
  /-- `LD L,C` (R130) -/
  | ld_l_c
  /-- `LD L,D` (R130) -/
  | ld_l_d
  /-- `LD L,E` (R130) -/
  | ld_l_e
  /-- `LD L,H` (R130) -/
  | ld_l_h
  /-- `LD L,L` (R130) -/
  | ld_l_l
  /-- `LD L,(HL)` (R132) -/
  | ld_l_atHL
  /-- `LD L,A` (R130) -/
  | ld_l_a
  /-- `LD (HL),B` (R133) -/
  | ld_atHL_b
  /-- `LD (HL),C` (R133) -/
  | ld_atHL_c
  /-- `LD (HL),D` (R133) -/
  | ld_atHL_d
  /-- `LD (HL),E` (R133) -/
  | ld_atHL_e
  /-- `LD (HL),H` (R133) -/
  | ld_atHL_h
  /-- `LD (HL),L` (R133) -/
  | ld_atHL_l
  /-- `HALT` (R271) -/
  | halt
  /-- `LD (HL),A` (R133) -/
  | ld_atHL_a
  /-- `LD A,B` (R130) -/
  | ld_a_b
  /-- `LD A,C` (R130) -/
  | ld_a_c
  /-- `LD A,D` (R130) -/
  | ld_a_d
  /-- `LD A,E` (R130) -/
  | ld_a_e
  /-- `LD A,H` (R130) -/
  | ld_a_h
  /-- `LD A,L` (R130) -/
  | ld_a_l
  /-- `LD A,(HL)` (R132) -/
  | ld_a_atHL
  /-- `LD A,A` (R130) -/
  | ld_a_a
  /-- `ADD A,B` (R181) -/
  | add_a_b
  /-- `ADD A,C` (R181) -/
  | add_a_c
  /-- `ADD A,D` (R181) -/
  | add_a_d
  /-- `ADD A,E` (R181) -/
  | add_a_e
  /-- `ADD A,H` (R181) -/
  | add_a_h
  /-- `ADD A,L` (R181) -/
  | add_a_l
  /-- `ADD A,(HL)` (R181) -/
  | add_a_atHL
  /-- `ADD A,A` (R181) -/
  | add_a_a
  /-- `ADC A,B` (R182) -/
  | adc_a_b
  /-- `ADC A,C` (R182) -/
  | adc_a_c
  /-- `ADC A,D` (R182) -/
  | adc_a_d
  /-- `ADC A,E` (R182) -/
  | adc_a_e
  /-- `ADC A,H` (R182) -/
  | adc_a_h
  /-- `ADC A,L` (R182) -/
  | adc_a_l
  /-- `ADC A,(HL)` (R182) -/
  | adc_a_atHL
  /-- `ADC A,A` (R182) -/
  | adc_a_a
  /-- `SUB B` (R183) -/
  | sub_b
  /-- `SUB C` (R183) -/
  | sub_c
  /-- `SUB D` (R183) -/
  | sub_d
  /-- `SUB E` (R183) -/
  | sub_e
  /-- `SUB H` (R183) -/
  | sub_h
  /-- `SUB L` (R183) -/
  | sub_l
  /-- `SUB (HL)` (R183) -/
  | sub_atHL
  /-- `SUB A` (R183) -/
  | sub_a
  /-- `SBC A,B` (R184) -/
  | sbc_a_b
  /-- `SBC A,C` (R184) -/
  | sbc_a_c
  /-- `SBC A,D` (R184) -/
  | sbc_a_d
  /-- `SBC A,E` (R184) -/
  | sbc_a_e
  /-- `SBC A,H` (R184) -/
  | sbc_a_h
  /-- `SBC A,L` (R184) -/
  | sbc_a_l
  /-- `SBC A,(HL)` (R184) -/
  | sbc_a_atHL
  /-- `SBC A,A` (R184) -/
  | sbc_a_a
  /-- `AND B` (R185) -/
  | and_b
  /-- `AND C` (R185) -/
  | and_c
  /-- `AND D` (R185) -/
  | and_d
  /-- `AND E` (R185) -/
  | and_e
  /-- `AND H` (R185) -/
  | and_h
  /-- `AND L` (R185) -/
  | and_l
  /-- `AND (HL)` (R185) -/
  | and_atHL
  /-- `AND A` (R185) -/
  | and_a
  /-- `XOR B` (R186) -/
  | xor_b
  /-- `XOR C` (R186) -/
  | xor_c
  /-- `XOR D` (R186) -/
  | xor_d
  /-- `XOR E` (R186) -/
  | xor_e
  /-- `XOR H` (R186) -/
  | xor_h
  /-- `XOR L` (R186) -/
  | xor_l
  /-- `XOR (HL)` (R186) -/
  | xor_atHL
  /-- `XOR A` (R186) -/
  | xor_a
  /-- `OR B` (R187) -/
  | or_b
  /-- `OR C` (R187) -/
  | or_c
  /-- `OR D` (R187) -/
  | or_d
  /-- `OR E` (R187) -/
  | or_e
  /-- `OR H` (R187) -/
  | or_h
  /-- `OR L` (R187) -/
  | or_l
  /-- `OR (HL)` (R187) -/
  | or_atHL
  /-- `OR A` (R187) -/
  | or_a
  /-- `CP B` (R188) -/
  | cp_b
  /-- `CP C` (R188) -/
  | cp_c
  /-- `CP D` (R188) -/
  | cp_d
  /-- `CP E` (R188) -/
  | cp_e
  /-- `CP H` (R188) -/
  | cp_h
  /-- `CP L` (R188) -/
  | cp_l
  /-- `CP (HL)` (R188) -/
  | cp_atHL
  /-- `CP A` (R188) -/
  | cp_a
  /-- `RET NZ` (R259) -/
  | ret_nz
  /-- `POP BC` (R165) -/
  | pop_bc
  /-- `PUSH BC` (R164) -/
  | push_bc
  /-- `RST 00` (R261) -/
  | rst_00
  /-- `RET Z` (R259) -/
  | ret_z
  /-- `RET` (R258) -/
  | ret
  /-- `RST 08` (R261) -/
  | rst_08
  /-- `RET NC` (R259) -/
  | ret_nc
  /-- `POP DE` (R165) -/
  | pop_de
  /-- `PUSH DE` (R164) -/
  | push_de
  /-- `RST 10` (R261) -/
  | rst_10
  /-- `RET C` (R259) -/
  | ret_c
  /-- `RETI` (R260) -/
  | reti
  /-- `RST 18` (R261) -/
  | rst_18
  /-- `POP HL` (R165) -/
  | pop_hl
  /-- `LD (C),A` (R145) -/
  | ld_atC_a
  /-- `PUSH HL` (R164) -/
  | push_hl
  /-- `RST 20` (R261) -/
  | rst_20
  /-- `JP HL` (R253) -/
  | jp_hl
  /-- `RST 28` (R261) -/
  | rst_28
  /-- `POP AF` (R166) -/
  | pop_af
  /-- `LD A,(C)` (R146) -/
  | ld_a_atC
  /-- `DI` (R273) -/
  | di
  /-- `PUSH AF` (R164) -/
  | push_af
  /-- `RST 30` (R261) -/
  | rst_30
  /-- `LD SP,HL` (R162) -/
  | ld_sp_hl
  /-- `EI` (R274) -/
  | ei
  /-- `RST 38` (R261) -/
  | rst_38
  /-- `RLC B` (R225) -/
  | rlc_b
  /-- `RLC C` (R225) -/
  | rlc_c
  /-- `RLC D` (R225) -/
  | rlc_d
  /-- `RLC E` (R225) -/
  | rlc_e
  /-- `RLC H` (R225) -/
  | rlc_h
  /-- `RLC L` (R225) -/
  | rlc_l
  /-- `RLC (HL)` (R225) -/
  | rlc_atHL
  /-- `RLC A` (R225) -/
  | rlc_a
  /-- `RRC B` (R226) -/
  | rrc_b
  /-- `RRC C` (R226) -/
  | rrc_c
  /-- `RRC D` (R226) -/
  | rrc_d
  /-- `RRC E` (R226) -/
  | rrc_e
  /-- `RRC H` (R226) -/
  | rrc_h
  /-- `RRC L` (R226) -/
  | rrc_l
  /-- `RRC (HL)` (R226) -/
  | rrc_atHL
  /-- `RRC A` (R226) -/
  | rrc_a
  /-- `RL B` (R227) -/
  | rl_b
  /-- `RL C` (R227) -/
  | rl_c
  /-- `RL D` (R227) -/
  | rl_d
  /-- `RL E` (R227) -/
  | rl_e
  /-- `RL H` (R227) -/
  | rl_h
  /-- `RL L` (R227) -/
  | rl_l
  /-- `RL (HL)` (R227) -/
  | rl_atHL
  /-- `RL A` (R227) -/
  | rl_a
  /-- `RR B` (R228) -/
  | rr_b
  /-- `RR C` (R228) -/
  | rr_c
  /-- `RR D` (R228) -/
  | rr_d
  /-- `RR E` (R228) -/
  | rr_e
  /-- `RR H` (R228) -/
  | rr_h
  /-- `RR L` (R228) -/
  | rr_l
  /-- `RR (HL)` (R228) -/
  | rr_atHL
  /-- `RR A` (R228) -/
  | rr_a
  /-- `SLA B` (R229) -/
  | sla_b
  /-- `SLA C` (R229) -/
  | sla_c
  /-- `SLA D` (R229) -/
  | sla_d
  /-- `SLA E` (R229) -/
  | sla_e
  /-- `SLA H` (R229) -/
  | sla_h
  /-- `SLA L` (R229) -/
  | sla_l
  /-- `SLA (HL)` (R229) -/
  | sla_atHL
  /-- `SLA A` (R229) -/
  | sla_a
  /-- `SRA B` (R230) -/
  | sra_b
  /-- `SRA C` (R230) -/
  | sra_c
  /-- `SRA D` (R230) -/
  | sra_d
  /-- `SRA E` (R230) -/
  | sra_e
  /-- `SRA H` (R230) -/
  | sra_h
  /-- `SRA L` (R230) -/
  | sra_l
  /-- `SRA (HL)` (R230) -/
  | sra_atHL
  /-- `SRA A` (R230) -/
  | sra_a
  /-- `SWAP B` (R231) -/
  | swap_b
  /-- `SWAP C` (R231) -/
  | swap_c
  /-- `SWAP D` (R231) -/
  | swap_d
  /-- `SWAP E` (R231) -/
  | swap_e
  /-- `SWAP H` (R231) -/
  | swap_h
  /-- `SWAP L` (R231) -/
  | swap_l
  /-- `SWAP (HL)` (R231) -/
  | swap_atHL
  /-- `SWAP A` (R231) -/
  | swap_a
  /-- `SRL B` (R232) -/
  | srl_b
  /-- `SRL C` (R232) -/
  | srl_c
  /-- `SRL D` (R232) -/
  | srl_d
  /-- `SRL E` (R232) -/
  | srl_e
  /-- `SRL H` (R232) -/
  | srl_h
  /-- `SRL L` (R232) -/
  | srl_l
  /-- `SRL (HL)` (R232) -/
  | srl_atHL
  /-- `SRL A` (R232) -/
  | srl_a
  /-- `BIT 0,B` (R233) -/
  | bit_0_b
  /-- `BIT 0,C` (R233) -/
  | bit_0_c
  /-- `BIT 0,D` (R233) -/
  | bit_0_d
  /-- `BIT 0,E` (R233) -/
  | bit_0_e
  /-- `BIT 0,H` (R233) -/
  | bit_0_h
  /-- `BIT 0,L` (R233) -/
  | bit_0_l
  /-- `BIT 0,(HL)` (R233) -/
  | bit_0_atHL
  /-- `BIT 0,A` (R233) -/
  | bit_0_a
  /-- `BIT 1,B` (R233) -/
  | bit_1_b
  /-- `BIT 1,C` (R233) -/
  | bit_1_c
  /-- `BIT 1,D` (R233) -/
  | bit_1_d
  /-- `BIT 1,E` (R233) -/
  | bit_1_e
  /-- `BIT 1,H` (R233) -/
  | bit_1_h
  /-- `BIT 1,L` (R233) -/
  | bit_1_l
  /-- `BIT 1,(HL)` (R233) -/
  | bit_1_atHL
  /-- `BIT 1,A` (R233) -/
  | bit_1_a
  /-- `BIT 2,B` (R233) -/
  | bit_2_b
  /-- `BIT 2,C` (R233) -/
  | bit_2_c
  /-- `BIT 2,D` (R233) -/
  | bit_2_d
  /-- `BIT 2,E` (R233) -/
  | bit_2_e
  /-- `BIT 2,H` (R233) -/
  | bit_2_h
  /-- `BIT 2,L` (R233) -/
  | bit_2_l
  /-- `BIT 2,(HL)` (R233) -/
  | bit_2_atHL
  /-- `BIT 2,A` (R233) -/
  | bit_2_a
  /-- `BIT 3,B` (R233) -/
  | bit_3_b
  /-- `BIT 3,C` (R233) -/
  | bit_3_c
  /-- `BIT 3,D` (R233) -/
  | bit_3_d
  /-- `BIT 3,E` (R233) -/
  | bit_3_e
  /-- `BIT 3,H` (R233) -/
  | bit_3_h
  /-- `BIT 3,L` (R233) -/
  | bit_3_l
  /-- `BIT 3,(HL)` (R233) -/
  | bit_3_atHL
  /-- `BIT 3,A` (R233) -/
  | bit_3_a
  /-- `BIT 4,B` (R233) -/
  | bit_4_b
  /-- `BIT 4,C` (R233) -/
  | bit_4_c
  /-- `BIT 4,D` (R233) -/
  | bit_4_d
  /-- `BIT 4,E` (R233) -/
  | bit_4_e
  /-- `BIT 4,H` (R233) -/
  | bit_4_h
  /-- `BIT 4,L` (R233) -/
  | bit_4_l
  /-- `BIT 4,(HL)` (R233) -/
  | bit_4_atHL
  /-- `BIT 4,A` (R233) -/
  | bit_4_a
  /-- `BIT 5,B` (R233) -/
  | bit_5_b
  /-- `BIT 5,C` (R233) -/
  | bit_5_c
  /-- `BIT 5,D` (R233) -/
  | bit_5_d
  /-- `BIT 5,E` (R233) -/
  | bit_5_e
  /-- `BIT 5,H` (R233) -/
  | bit_5_h
  /-- `BIT 5,L` (R233) -/
  | bit_5_l
  /-- `BIT 5,(HL)` (R233) -/
  | bit_5_atHL
  /-- `BIT 5,A` (R233) -/
  | bit_5_a
  /-- `BIT 6,B` (R233) -/
  | bit_6_b
  /-- `BIT 6,C` (R233) -/
  | bit_6_c
  /-- `BIT 6,D` (R233) -/
  | bit_6_d
  /-- `BIT 6,E` (R233) -/
  | bit_6_e
  /-- `BIT 6,H` (R233) -/
  | bit_6_h
  /-- `BIT 6,L` (R233) -/
  | bit_6_l
  /-- `BIT 6,(HL)` (R233) -/
  | bit_6_atHL
  /-- `BIT 6,A` (R233) -/
  | bit_6_a
  /-- `BIT 7,B` (R233) -/
  | bit_7_b
  /-- `BIT 7,C` (R233) -/
  | bit_7_c
  /-- `BIT 7,D` (R233) -/
  | bit_7_d
  /-- `BIT 7,E` (R233) -/
  | bit_7_e
  /-- `BIT 7,H` (R233) -/
  | bit_7_h
  /-- `BIT 7,L` (R233) -/
  | bit_7_l
  /-- `BIT 7,(HL)` (R233) -/
  | bit_7_atHL
  /-- `BIT 7,A` (R233) -/
  | bit_7_a
  /-- `RES 0,B` (R234) -/
  | res_0_b
  /-- `RES 0,C` (R234) -/
  | res_0_c
  /-- `RES 0,D` (R234) -/
  | res_0_d
  /-- `RES 0,E` (R234) -/
  | res_0_e
  /-- `RES 0,H` (R234) -/
  | res_0_h
  /-- `RES 0,L` (R234) -/
  | res_0_l
  /-- `RES 0,(HL)` (R234) -/
  | res_0_atHL
  /-- `RES 0,A` (R234) -/
  | res_0_a
  /-- `RES 1,B` (R234) -/
  | res_1_b
  /-- `RES 1,C` (R234) -/
  | res_1_c
  /-- `RES 1,D` (R234) -/
  | res_1_d
  /-- `RES 1,E` (R234) -/
  | res_1_e
  /-- `RES 1,H` (R234) -/
  | res_1_h
  /-- `RES 1,L` (R234) -/
  | res_1_l
  /-- `RES 1,(HL)` (R234) -/
  | res_1_atHL
  /-- `RES 1,A` (R234) -/
  | res_1_a
  /-- `RES 2,B` (R234) -/
  | res_2_b
  /-- `RES 2,C` (R234) -/
  | res_2_c
  /-- `RES 2,D` (R234) -/
  | res_2_d
  /-- `RES 2,E` (R234) -/
  | res_2_e
  /-- `RES 2,H` (R234) -/
  | res_2_h
  /-- `RES 2,L` (R234) -/
  | res_2_l
  /-- `RES 2,(HL)` (R234) -/
  | res_2_atHL
  /-- `RES 2,A` (R234) -/
  | res_2_a
  /-- `RES 3,B` (R234) -/
  | res_3_b
  /-- `RES 3,C` (R234) -/
  | res_3_c
  /-- `RES 3,D` (R234) -/
  | res_3_d
  /-- `RES 3,E` (R234) -/
  | res_3_e
  /-- `RES 3,H` (R234) -/
  | res_3_h
  /-- `RES 3,L` (R234) -/
  | res_3_l
  /-- `RES 3,(HL)` (R234) -/
  | res_3_atHL
  /-- `RES 3,A` (R234) -/
  | res_3_a
  /-- `RES 4,B` (R234) -/
  | res_4_b
  /-- `RES 4,C` (R234) -/
  | res_4_c
  /-- `RES 4,D` (R234) -/
  | res_4_d
  /-- `RES 4,E` (R234) -/
  | res_4_e
  /-- `RES 4,H` (R234) -/
  | res_4_h
  /-- `RES 4,L` (R234) -/
  | res_4_l
  /-- `RES 4,(HL)` (R234) -/
  | res_4_atHL
  /-- `RES 4,A` (R234) -/
  | res_4_a
  /-- `RES 5,B` (R234) -/
  | res_5_b
  /-- `RES 5,C` (R234) -/
  | res_5_c
  /-- `RES 5,D` (R234) -/
  | res_5_d
  /-- `RES 5,E` (R234) -/
  | res_5_e
  /-- `RES 5,H` (R234) -/
  | res_5_h
  /-- `RES 5,L` (R234) -/
  | res_5_l
  /-- `RES 5,(HL)` (R234) -/
  | res_5_atHL
  /-- `RES 5,A` (R234) -/
  | res_5_a
  /-- `RES 6,B` (R234) -/
  | res_6_b
  /-- `RES 6,C` (R234) -/
  | res_6_c
  /-- `RES 6,D` (R234) -/
  | res_6_d
  /-- `RES 6,E` (R234) -/
  | res_6_e
  /-- `RES 6,H` (R234) -/
  | res_6_h
  /-- `RES 6,L` (R234) -/
  | res_6_l
  /-- `RES 6,(HL)` (R234) -/
  | res_6_atHL
  /-- `RES 6,A` (R234) -/
  | res_6_a
  /-- `RES 7,B` (R234) -/
  | res_7_b
  /-- `RES 7,C` (R234) -/
  | res_7_c
  /-- `RES 7,D` (R234) -/
  | res_7_d
  /-- `RES 7,E` (R234) -/
  | res_7_e
  /-- `RES 7,H` (R234) -/
  | res_7_h
  /-- `RES 7,L` (R234) -/
  | res_7_l
  /-- `RES 7,(HL)` (R234) -/
  | res_7_atHL
  /-- `RES 7,A` (R234) -/
  | res_7_a
  /-- `SET 0,B` (R235) -/
  | set_0_b
  /-- `SET 0,C` (R235) -/
  | set_0_c
  /-- `SET 0,D` (R235) -/
  | set_0_d
  /-- `SET 0,E` (R235) -/
  | set_0_e
  /-- `SET 0,H` (R235) -/
  | set_0_h
  /-- `SET 0,L` (R235) -/
  | set_0_l
  /-- `SET 0,(HL)` (R235) -/
  | set_0_atHL
  /-- `SET 0,A` (R235) -/
  | set_0_a
  /-- `SET 1,B` (R235) -/
  | set_1_b
  /-- `SET 1,C` (R235) -/
  | set_1_c
  /-- `SET 1,D` (R235) -/
  | set_1_d
  /-- `SET 1,E` (R235) -/
  | set_1_e
  /-- `SET 1,H` (R235) -/
  | set_1_h
  /-- `SET 1,L` (R235) -/
  | set_1_l
  /-- `SET 1,(HL)` (R235) -/
  | set_1_atHL
  /-- `SET 1,A` (R235) -/
  | set_1_a
  /-- `SET 2,B` (R235) -/
  | set_2_b
  /-- `SET 2,C` (R235) -/
  | set_2_c
  /-- `SET 2,D` (R235) -/
  | set_2_d
  /-- `SET 2,E` (R235) -/
  | set_2_e
  /-- `SET 2,H` (R235) -/
  | set_2_h
  /-- `SET 2,L` (R235) -/
  | set_2_l
  /-- `SET 2,(HL)` (R235) -/
  | set_2_atHL
  /-- `SET 2,A` (R235) -/
  | set_2_a
  /-- `SET 3,B` (R235) -/
  | set_3_b
  /-- `SET 3,C` (R235) -/
  | set_3_c
  /-- `SET 3,D` (R235) -/
  | set_3_d
  /-- `SET 3,E` (R235) -/
  | set_3_e
  /-- `SET 3,H` (R235) -/
  | set_3_h
  /-- `SET 3,L` (R235) -/
  | set_3_l
  /-- `SET 3,(HL)` (R235) -/
  | set_3_atHL
  /-- `SET 3,A` (R235) -/
  | set_3_a
  /-- `SET 4,B` (R235) -/
  | set_4_b
  /-- `SET 4,C` (R235) -/
  | set_4_c
  /-- `SET 4,D` (R235) -/
  | set_4_d
  /-- `SET 4,E` (R235) -/
  | set_4_e
  /-- `SET 4,H` (R235) -/
  | set_4_h
  /-- `SET 4,L` (R235) -/
  | set_4_l
  /-- `SET 4,(HL)` (R235) -/
  | set_4_atHL
  /-- `SET 4,A` (R235) -/
  | set_4_a
  /-- `SET 5,B` (R235) -/
  | set_5_b
  /-- `SET 5,C` (R235) -/
  | set_5_c
  /-- `SET 5,D` (R235) -/
  | set_5_d
  /-- `SET 5,E` (R235) -/
  | set_5_e
  /-- `SET 5,H` (R235) -/
  | set_5_h
  /-- `SET 5,L` (R235) -/
  | set_5_l
  /-- `SET 5,(HL)` (R235) -/
  | set_5_atHL
  /-- `SET 5,A` (R235) -/
  | set_5_a
  /-- `SET 6,B` (R235) -/
  | set_6_b
  /-- `SET 6,C` (R235) -/
  | set_6_c
  /-- `SET 6,D` (R235) -/
  | set_6_d
  /-- `SET 6,E` (R235) -/
  | set_6_e
  /-- `SET 6,H` (R235) -/
  | set_6_h
  /-- `SET 6,L` (R235) -/
  | set_6_l
  /-- `SET 6,(HL)` (R235) -/
  | set_6_atHL
  /-- `SET 6,A` (R235) -/
  | set_6_a
  /-- `SET 7,B` (R235) -/
  | set_7_b
  /-- `SET 7,C` (R235) -/
  | set_7_c
  /-- `SET 7,D` (R235) -/
  | set_7_d
  /-- `SET 7,E` (R235) -/
  | set_7_e
  /-- `SET 7,H` (R235) -/
  | set_7_h
  /-- `SET 7,L` (R235) -/
  | set_7_l
  /-- `SET 7,(HL)` (R235) -/
  | set_7_atHL
  /-- `SET 7,A` (R235) -/
  | set_7_a
deriving DecidableEq, Repr

end Sys2Proof
end

