-- ==== Sys2Proof/Machine/State.lean ====
section
/-! DEFINITION. The state of the machine as plain data, the reasons it can stop, and the state after reset (10_state.md; R380). -/

namespace Sys2Proof.Machine

/-- The four flags `zero`, `subtract`, `half_carry`, `carry` (R21), written fZ, fN, fH, fC in the spec. -/
structure Flags where
  z : Bool
  n : Bool
  h : Bool
  c : Bool
deriving DecidableEq, Repr

/-- The seven 8-bit general registers (R20). -/
structure Regs where
  a : Byte
  b : Byte
  c : Byte
  d : Byte
  e : Byte
  h : Byte
  l : Byte
deriving DecidableEq, Repr

/-- The four PPU modes (R40, R305). -/
inductive PpuMode where
  | oamScan
  | pixelTransfer
  | hBlank
  | vBlank
deriving DecidableEq, Repr

/-- The state the PPU owns (R36 to R40, R43 to R46). `obj_size_16` is bit 2 of `lcdc` and is stored there only (R43). -/
structure Ppu where
  /-- `vram`, 0x2000 bytes keyed by offset (R36, R291). -/
  vram : Memory
  /-- `oam`, 0xA0 bytes keyed by offset (R37, R297). -/
  oam : Memory
  /-- `tiles`, the rows of the tile cache keyed by `tileKey` (R38, R294). -/
  tiles : Cells TileRow
  /-- `objects`, the 40 decoded entries keyed by slot number (R39). -/
  objects : Cells ObjectEntry
  /-- `mode` (R40). -/
  mode : PpuMode
  /-- `ppu_cycles`, the rolling cycle counter (R40). -/
  cycles : Nat
  /-- `ly`, the scanline counter (R40, R45). -/
  ly : Byte
  /-- `lyc`, the compare register (R40, R46). -/
  lyc : Byte
  /-- `sel_hblank` (R44, bit 3). -/
  selHblank : Bool
  /-- `sel_vblank` (R44, bit 4). -/
  selVblank : Bool
  /-- `sel_oam` (R44, bit 5). -/
  selOam : Bool
  /-- `sel_lyc` (R44, bit 6). -/
  selLyc : Bool
  /-- LCDC, all eight bits (R43). -/
  lcdc : Byte
deriving DecidableEq, Repr

/-- `Fatal(kind, info)`, what the fault latch records (R29, R343). -/
inductive Fatal where
  /-- `Fatal(IllegalOpcode, {pc, opcode})` (R344). -/
  | illegalOpcode (pc : Word) (opcode : Byte)
  /-- `Fatal(UnusedWrite, addr)` (R345). -/
  | unusedWrite (addr : Word)
  /-- `Fatal(RomWrite, addr)`, only under `ROM_WRITE_POLICY = fault` (R85). -/
  | romWrite (addr : Word)
deriving DecidableEq, Repr

/-- The state of the one engine, which owns all of it (R364: one hardware thread, one core, no identifier register, so there
is one register file and one pc): every piece the spec names, and three records of the model's own (`ioLog`, `extIrq`,
`cycles`: the block's connections to the host, see the assumption log 1, 2 and 3). -/
structure State where
  /-- A, B, C, D, E, H, L (R20). -/
  regs : Regs
  /-- fZ, fN, fH, fC (R21). -/
  flags : Flags
  /-- `pc` (R25). -/
  pc : Word
  /-- `sp` (R26). -/
  sp : Word
  /-- `ime` (R27). -/
  ime : Bool
  /-- `ime_scheduled` (R27). -/
  imeScheduled : Bool
  /-- `halted` (R28). -/
  halted : Bool
  /-- `stopped` (R28). -/
  stopped : Bool
  /-- The fault latch (R29). -/
  fault : Option Fatal
  /-- `boot_rom_enabled` (R32). -/
  bootRomEnabled : Bool
  /-- `wram`, 0x2000 bytes keyed by offset (R33). -/
  wram : Memory
  /-- `eram`, 0x2000 bytes keyed by offset (R34). -/
  eram : Memory
  /-- `hram`, 0x7F bytes keyed by offset (R35). -/
  hram : Memory
  /-- What the PPU owns (R36 to R40). -/
  ppu : Ppu
  /-- `ie`, 5 bits (R41). -/
  ie : IntSet
  /-- `iflags`, 5 bits (R42). -/
  iflags : IntSet
  /-- The parameters the block was constructed with (R7, R31). -/
  cfg : Params
  /-- The model's own: every access made to the external I/O port, the newest first (R86). -/
  ioLog : List IoEvent
  /-- The model's own: the `ExtIrq` inputs of the steps to come, the next step's first (R340, R351); no entry is no request. -/
  extIrq : List IntSet
  /-- The model's own: the cycles the last step reported (R13); 0 when it reported none. -/
  cycles : Nat
deriving DecidableEq, Repr

/-- Reasons a step could stop the model outright. There are NONE, so no step answers a fault: the spec's fatal errors are a
state of the machine (the fault latch, R29 and R347), entered by a next state, and the map has no address that does not
exist (R348). Safe: nothing is hidden behind a stop. -/
inductive Fault where
deriving DecidableEq, Repr

/-- Reasons the model could give an instruction no meaning. -/
inductive Refusal where
  /-- An instruction the model does not cover; raised by no arm of `exec`. Safe: the run ends. -/
  | notModelled (mnemonic : String)
deriving DecidableEq, Repr

/-- What executing an instruction or taking a step answers. -/
abbrev Result := Host.Outcome State Fault Refusal

/-- The PPU after reset, its two memories at the given contents (R36 to R40, R380). -/
def Ppu.resetWith (vram oam : Memory) : Ppu where
  vram := vram
  oam := oam
  tiles := tilesOf vram
  objects := []
  mode := .oamScan
  cycles := 0
  ly := 0
  lyc := 0
  selHblank := false
  selVblank := false
  selOam := false
  selLyc := false
  lcdc := 0

/-- `Reset()` of R380 for a block constructed with parameters `p`. -/
def State.resetWith (p : Params) : State where
  regs := ⟨p.resetRegs.a, p.resetRegs.b, p.resetRegs.c, p.resetRegs.d, p.resetRegs.e, p.resetRegs.h, p.resetRegs.l⟩
  flags := ⟨p.resetRegs.fZ, p.resetRegs.fN, p.resetRegs.fH, p.resetRegs.fC⟩
  pc := 0x0000
  sp := p.resetRegs.sp
  ime := false
  imeScheduled := false
  halted := false
  stopped := false
  fault := none
  bootRomEnabled := true
  wram := p.initMem.wram
  eram := p.initMem.eram
  hram := p.initMem.hram
  ppu := Ppu.resetWith p.initMem.vram p.initMem.oam
  ie := 0
  iflags := 0
  cfg := p
  ioLog := []
  extIrq := []
  cycles := 0

/-- The machine right after reset with every parameter at its default (R7, R51, R380). -/
def State.reset : State := State.resetWith {}

end Sys2Proof.Machine
end

