-- ==== Sys2Proof/Machine/Flags.lean ====
section
/-! DEFINITION. Every flag computation the spec gives, each with the result it goes with (42_alu8.md, 43_alu16.md, 44_rotate_shift_bit.md, R168, R250). Comparisons are over unbounded integers (R8). -/

namespace Sys2Proof.Machine

/-- The virtual F register (R22). -/
def Flags.pack (f : Flags) : Byte :=
  BitVec.ofBool f.z ++ BitVec.ofBool f.n ++ BitVec.ofBool f.h ++ BitVec.ofBool f.c ++ 0#4

/-- The flags of a byte's top nibble; bits 3..0 are discarded (R23). -/
def Flags.unpack (v : Byte) : Flags := ⟨v.getLsbD 7, v.getLsbD 6, v.getLsbD 5, v.getLsbD 4⟩

/-- The low nibble as a number. -/
def nibble (v : Byte) : Nat := v.toNat % 16

/-- ADD (R181) and, with a carry in, ADC (R182): result and flags. -/
def addFlags (a v : Byte) (cin : Nat) : Byte × Flags :=
  let r := BitVec.ofNat 8 (a.toNat + v.toNat + cin)
  (r, ⟨r == 0, false, decide (nibble a + nibble v + cin > 0xF), decide (a.toNat + v.toNat + cin > 255)⟩)

/-- SUB (R183), CP (R188) and, with a borrow in, SBC (R184): result and flags. -/
def subFlags (a v : Byte) (cin : Nat) : Byte × Flags :=
  let r := BitVec.ofInt 8 ((a.toNat : Int) - v.toNat - cin)
  (r, ⟨r == 0, true, decide (nibble a < nibble v + cin), decide (a.toNat < v.toNat + cin)⟩)

/-- The flags of AND, XOR and OR (R185 to R187): half-carry forced true, GBE's documented deviation (R2, D2). -/
def logicFlags (r : Byte) : Byte × Flags := (r, ⟨r == 0, false, true, false⟩)

/-- The carry flag as the number an operation takes in. -/
def Flags.cin (f : Flags) : Nat := if f.c then 1 else 0

/-- The accumulator operations (R181 to R188): what A gets, if it is written, and the four flags. -/
def aluResult (k : AluOp) (a v : Byte) (f : Flags) : Byte × Flags :=
  match k with
  | .add => addFlags a v 0
  | .adc => addFlags a v f.cin
  | .sub => subFlags a v 0
  | .sbc => subFlags a v f.cin
  | .and => logicFlags (a &&& v)
  | .xor => logicFlags (a ^^^ v)
  | .or => logicFlags (a ||| v)
  | .cp => (a, (subFlags a v 0).2)

/-- INC of a byte (R189, R190): carry set exactly on the wrap from 0xFF (D3). -/
def incResult (o : Byte) : Byte × Flags :=
  (o + 1, ⟨o + 1 == 0, false, nibble o == 0xF, o == 0xFF⟩)

/-- DEC of a byte (R191, R192): carry set exactly on the wrap from 0x00 (D3). -/
def decResult (o : Byte) : Byte × Flags :=
  (o - 1, ⟨o - 1 == 0, true, nibble o == 0x0, o == 0x00⟩)

/-- DAA (R193): the adjusted A and the flags. -/
def daaResult (a : Byte) (f : Flags) : Byte × Flags :=
  let lowAdj : Bool := if f.n then f.h else f.h || decide (nibble a > 0x09)
  let highAdj : Bool := if f.n then f.c else f.c || decide (a.toNat > 0x99)
  let adj : Byte := (if lowAdj then 0x06 else 0x00) ||| (if highAdj then 0x60 else 0x00)
  let r := if f.n then a - adj else a + adj
  (r, ⟨r == 0, f.n, false, if f.n then f.c else highAdj⟩)

/-- ADD HL,rr (R210): half-carry out of bit 11, carry out of bit 15, zero from the 16-bit result. -/
def addWordResult (x v : Word) : Word × Flags :=
  (x + v, ⟨x + v == 0, false, decide (x.toNat % 0x1000 + v.toNat % 0x1000 > 0x0FFF), decide (x.toNat + v.toNat > 0xFFFF)⟩)

/-- `SpAddFlags(s, e)` of R168 with fZ and fN false (R163, R167): carries out of bits 3 and 7 of the low byte's addition. -/
def spAddFlags (x : Word) (e : Byte) : Flags :=
  ⟨false, false, decide (x.toNat % 0x10 + nibble e > 0x0F), decide (x.toNat % 0x100 + e.toNat > 0xFF)⟩

/-- The rotates and shifts (R225 to R232): the result and the bit that goes to carry; `c` is the carry before. -/
def rotate (k : CbRot) (v : Byte) (c : Bool) : Byte × Bool :=
  match k with
  | .rlc => ((v <<< 1) ||| bitOf (v.getLsbD 7), v.getLsbD 7)
  | .rrc => ((v >>> 1) ||| (bitOf (v.getLsbD 0) <<< 7), v.getLsbD 0)
  | .rl => ((v <<< 1) ||| bitOf c, v.getLsbD 7)
  | .rr => ((v >>> 1) ||| (bitOf c <<< 7), v.getLsbD 0)
  | .sla => (v <<< 1, v.getLsbD 7)
  | .sra => ((v >>> 1) ||| (v &&& 0x80), v.getLsbD 0)
  | .swap => (((v &&& 0x0F) <<< 4) ||| (v >>> 4), false)
  | .srl => (v >>> 1, v.getLsbD 0)

/-- A secondary-table rotate or shift with its flags: the general forms recompute zero from the result (R224). -/
def rotateResult (k : CbRot) (v : Byte) (f : Flags) : Byte × Flags :=
  let out := rotate k v f.c
  (out.1, ⟨out.1 == 0, false, false, out.2⟩)

/-- The rotate an accumulator-only form performs (R220 to R223). -/
def AccRot.general : AccRot → CbRot
  | .rlca => .rlc
  | .rrca => .rrc
  | .rla => .rl
  | .rra => .rr

/-- An accumulator rotate with its flags: the accumulator-only forms force zero false (R220 to R223). -/
def accRotateResult (k : AccRot) (v : Byte) (f : Flags) : Byte × Flags :=
  let out := rotate k.general v f.c
  (out.1, ⟨false, false, false, out.2⟩)

/-- The flags after BIT (R233): zero iff the tested bit is 0, carry left. -/
def bitFlags (v : Byte) (n : BitVec 3) (f : Flags) : Flags := ⟨!v.getLsbD n.toNat, false, true, f.c⟩

/-- RES: bit `n` cleared (R234). -/
def clearBit (v : Byte) (n : BitVec 3) : Byte := v &&& ~~~(1#8 <<< n.toNat)

/-- SET: bit `n` set (R235). -/
def setBit (v : Byte) (n : BitVec 3) : Byte := v ||| (1#8 <<< n.toNat)

/-- CPL's flags (R194). -/
def cplFlags (f : Flags) : Flags := ⟨f.z, true, true, f.c⟩

/-- SCF's flags (R195). -/
def scfFlags (f : Flags) : Flags := ⟨f.z, false, false, true⟩

/-- CCF's flags (R196). -/
def ccfFlags (f : Flags) : Flags := ⟨f.z, false, false, !f.c⟩

/-- The jump test `Cond(cc)` (R250). -/
def Cond.holds (cc : Cond) (f : Flags) : Bool :=
  match cc with
  | .nz => !f.z
  | .z => f.z
  | .nc => !f.c
  | .c => f.c

end Sys2Proof.Machine
end

