-- ==== Sys2Proof/Machine/Cycles.lean ====
section
/-! DEFINITION. The cycles a step reports for an instruction: the table of R395 and the parameter `CYCLES` (R7, R13). -/

namespace Sys2Proof

open Machine

/-- The table of R395 by instruction. An unmapped byte reports no cycles (R276), and the byte 0xCB counts as the secondary
instruction it introduces (R275), so neither of the two last counts is ever asked for. -/
def Machine.Kind.tableCycles (taken : Bool) : Kind → Nat
  | .nop => 4
  | .ldRegReg _ _ => 4
  | .ldRegImm _ _ => 8
  | .ldRegHL _ => 8
  | .ldHLReg _ => 8
  | .ldHLImm _ => 12
  | .ldAPair _ => 8
  | .ldPairA _ => 8
  | .ldAHLPost _ => 8
  | .ldHLPostA _ => 8
  | .ldhImmA _ => 12
  | .ldhAImm _ => 12
  | .ldhCA => 8
  | .ldhAC => 8
  | .ldAbsA _ => 16
  | .ldAAbs _ => 16
  | .ldPairImm _ _ => 12
  | .ldAbsSP _ => 20
  | .ldSPHL => 8
  | .ldHLSPe _ => 12
  | .addSPe _ => 16
  | .push _ => 16
  | .pop _ => 12
  | .alu _ (.reg _) => 4
  | .alu _ .atHL => 8
  | .alu _ (.imm _) => 8
  | .inc8 (.reg _) => 4
  | .inc8 .atHL => 12
  | .dec8 (.reg _) => 4
  | .dec8 .atHL => 12
  | .daa => 4
  | .cpl => 4
  | .scf => 4
  | .ccf => 4
  | .addHL _ => 8
  | .incPair _ => 8
  | .decPair _ => 8
  | .accRotate _ => 4
  | .cbRotate _ (.reg _) => 8
  | .cbRotate _ .atHL => 16
  | .bitTest _ (.reg _) => 8
  | .bitTest _ .atHL => 12
  | .bitReset _ (.reg _) => 8
  | .bitReset _ .atHL => 16
  | .bitSet _ (.reg _) => 8
  | .bitSet _ .atHL => 16
  | .jp _ => 16
  | .jpCond _ _ => if taken then 16 else 12
  | .jpHL => 4
  | .jr _ => 12
  | .jrCond _ _ => if taken then 12 else 8
  | .call _ => 24
  | .callCond _ _ => if taken then 24 else 12
  | .ret => 16
  | .retCond _ => if taken then 20 else 8
  | .reti => 16
  | .rst _ => 16
  | .halt => 4
  | .stop _ => 4
  | .di => 4
  | .ei => 4
  | .cbPrefix _ => 0
  | .illegal _ => 0

/-- `CYCLES(instruction, taken)` (R7): the listed count, else R395's. -/
def CycleTable.count (t : CycleTable) (k : Kind) (taken : Bool) : Nat :=
  (t.listed.lookup (k, taken)).getD (k.tableCycles taken)

end Sys2Proof
end

