-- ==== Sys2Proof/Machine/Ppu.lean ====
section
/-! DEFINITION. The PPU datapath: VRAM and OAM writes with their derived views, the LCD registers, and the scanline mode machine with the interrupt requests it returns (48_ppu.md). It reads and writes nothing but its own state (R290). -/

namespace Sys2Proof.Machine

/-- `InterruptRequest` of R312: what `PPU.step` returns. -/
inductive InterruptRequest where
  | none
  | vblank
  | lcd
  | both
deriving DecidableEq, Repr

/-- The union of two requests as sets of sources (R312). -/
def InterruptRequest.union : InterruptRequest → InterruptRequest → InterruptRequest
  | .none, r => r
  | r, .none => r
  | .vblank, .vblank => .vblank
  | .lcd, .lcd => .lcd
  | .vblank, .lcd => .both
  | .lcd, .vblank => .both
  | .both, _ => .both
  | _, .both => .both

/-- `Mask(req)`: a request in the format of IF (R312). -/
def InterruptRequest.mask : InterruptRequest → IntSet
  | .none => 0b00000
  | .vblank => 0b00001
  | .lcd => 0b00010
  | .both => 0b00011

/-- An LCD request if the condition holds. -/
def lcdIf (c : Bool) : InterruptRequest := if c then .lcd else .none

/-- `obj_size_16 = LCDC[2]` (R43, R299). -/
def Ppu.objSize16 (p : Ppu) : Bool := p.lcdc.getLsbD 2

/-- `write_to_vram` of R292 at VRAM offset `i`: stores the byte and re-derives the tile row it belongs to. -/
def Ppu.writeVram (p : Ppu) (i : Nat) (v : Byte) : Ppu :=
  { p with vram := p.vram.write i v, tiles := refreshTile (p.vram.write i v) p.tiles i }

/-- The OAM write of R298 at OAM offset `i`: stores the byte and re-decodes its record. -/
def Ppu.writeOam (p : Ppu) (i : Nat) (v : Byte) : Ppu :=
  { p with
    oam := p.oam.write i v
    objects := Cells.write zeroObject p.objects (i / 4) (decodeObject (p.oam.write i v) p.objSize16 (i / 4)) }

/-- The mode number STAT bits 1:0 show (R44, R301). -/
def PpuMode.number : PpuMode → BitVec 2
  | .hBlank => 0
  | .vBlank => 1
  | .oamScan => 2
  | .pixelTransfer => 3

/-- STAT as a read returns it (R301); the coincidence bit is computed at the read. -/
def Ppu.readStat (p : Ppu) : Byte :=
  BitVec.ofBool false ++ BitVec.ofBool p.selLyc ++ BitVec.ofBool p.selOam ++ BitVec.ofBool p.selVblank ++
    BitVec.ofBool p.selHblank ++ BitVec.ofBool (p.ly == p.lyc) ++ p.mode.number

/-- A STAT write sets the four select bits and nothing else (R302). -/
def Ppu.writeStat (p : Ppu) (v : Byte) : Ppu :=
  { p with
    selHblank := v.getLsbD 3
    selVblank := v.getLsbD 4
    selOam := v.getLsbD 5
    selLyc := v.getLsbD 6 }

/-- An LCDC write stores all eight bits (R303). -/
def Ppu.writeLcdc (p : Ppu) (v : Byte) : Ppu := { p with lcdc := v }

/-- An LYC write stores the byte and does nothing else (R304). -/
def Ppu.writeLyc (p : Ppu) (v : Byte) : Ppu := { p with lyc := v }

/-- `Duration(mode)` of R305; in VBlank it is one line. -/
def PpuMode.duration : PpuMode → Nat
  | .oamScan => 80
  | .pixelTransfer => 172
  | .hBlank => 204
  | .vBlank => 456

/-- The LYC check of R311, made after a change of `ly`. -/
def Ppu.lycCheck (p : Ppu) : InterruptRequest := lcdIf (p.ly == p.lyc && p.selLyc)

/-- What happens when the current mode ends (R307 to R310): the next mode and LY, and the request raised. -/
def Ppu.modeEnd (p : Ppu) : Ppu × InterruptRequest :=
  match p.mode with
  | .oamScan => ({ p with mode := .pixelTransfer }, .none)
  | .pixelTransfer => ({ p with mode := .hBlank }, lcdIf p.selHblank)
  | .hBlank =>
    if p.ly + 1 = 144 then
      let q := { p with ly := p.ly + 1, mode := .vBlank }
      (q, (InterruptRequest.vblank.union (lcdIf p.selVblank)).union q.lycCheck)
    else
      let q := { p with ly := p.ly + 1, mode := .oamScan }
      (q, (lcdIf p.selOam).union q.lycCheck)
  | .vBlank =>
    if p.ly + 1 > 153 then
      let q := { p with ly := 0, mode := .oamScan }
      (q, (lcdIf p.selOam).union q.lycCheck)
    else
      let q := { p with ly := p.ly + 1 }
      (q, q.lycCheck)

/-- The loop of R306, at most `fuel` transitions: while the counter has reached the mode's duration, take it off and end
the mode; requests accumulate by union. -/
def Ppu.loop : Nat → Ppu → InterruptRequest → Ppu × InterruptRequest
  | 0, p, req => (p, req)
  | fuel + 1, p, req =>
    if p.cycles ≥ p.mode.duration then
      let out := Ppu.modeEnd { p with cycles := p.cycles - p.mode.duration }
      Ppu.loop fuel out.1 (req.union out.2)
    else (p, req)

/-- `PPU.step(cycles)` of R306. Every mode lasts at least 80 cycles, so the fuel is enough for every transition. -/
def Ppu.step (p : Ppu) (cycles : Nat) : Ppu × InterruptRequest :=
  Ppu.loop ((p.cycles + cycles) / 80 + 1) { p with cycles := p.cycles + cycles } .none

end Sys2Proof.Machine
end

