-- ==== Sys2Proof/Machine/Ops.lean ====
section
/-! DEFINITION. The named operations over memory and registers: the bus (20_memory.md), the stack, raising a fatal error (R347), taking an interrupt (R354) and returning from one (R260), and what the host can do between steps. -/

namespace Sys2Proof.Machine

/-- What an operation that can raise a fatal error answers: it went through, or the fault latch has been set and the rest
of the instruction is not performed (R12, R347). -/
inductive Access where
  | done (s : State)
  | fatal (s : State)
deriving DecidableEq, Repr

/-- Goes on with `k` unless a fatal error has ended the instruction. -/
def Access.andThen (r : Access) (k : State → Access) : Access :=
  match r with
  | .done s => k s
  | .fatal s => .fatal s

/-- Goes on with an update that cannot fail, unless a fatal error has ended the instruction. -/
def Access.map (r : Access) (k : State → State) : Access :=
  match r with
  | .done s => .done (k s)
  | .fatal s => .fatal s

/-- A fatal error is a next state with the latch set (R347), so both outcomes are next states. -/
def Access.result : Access → Result
  | .done s => .next s
  | .fatal s => .next s

/-! ## Program counter and report -/

/-- What the machine's `CYCLES` gives for an instruction (R7, R13); `taken` says whether its condition held, and is true for
an instruction without one. -/
def State.count (s : State) (k : Kind) (taken : Bool) : Nat := s.cfg.cycles.count k taken

/-- `pc <- pc +_16 len; cycles <- n`. -/
def State.advance (s : State) (len : Word) (n : Nat) : State := { s with pc := s.pc + len, cycles := n }

/-- `pc <- target; cycles <- n`. -/
def State.jumpTo (s : State) (target : Word) (n : Nat) : State := { s with pc := target, cycles := n }

/-- `raise Fatal(kind, info)` (R12, R347): the latch is set and the step reports no cycles (R276). -/
def State.raise (s : State) (f : Fatal) : State := { s with fault := some f, cycles := 0 }

/-! ## The bus -/

/-- What an address resolves to: one backing place (R61, R74). -/
inductive Target where
  /-- `BOOT_ROM[off]` (R62). -/
  | bootRom (off : Nat)
  /-- `CART_ROM[off]` (R63, R64). -/
  | cartRom (off : Nat)
  /-- `vram[off]` (R65). -/
  | vram (off : Nat)
  /-- `eram[off]` (R66). -/
  | eram (off : Nat)
  /-- `wram[off]`, directly or through the echo range (R67, R68). -/
  | wram (off : Nat)
  /-- `oam[off]` (R69). -/
  | oam (off : Nat)
  /-- The unused range (R70). -/
  | unused
  /-- IF (R42). -/
  | ifReg
  /-- LCDC (R43). -/
  | lcdc
  /-- STAT (R44). -/
  | stat
  /-- LY (R45). -/
  | ly
  /-- LYC (R46). -/
  | lyc
  /-- BOOTOFF (R47). -/
  | bootOff
  /-- The external I/O port (R86). -/
  | ioPort
  /-- `hram[off]` (R72). -/
  | hram (off : Nat)
  /-- IE (R73). -/
  | ieReg
deriving DecidableEq, Repr

/-- The sub-decode of 0xFF00-0xFF7F (R74). -/
def routeIo (n : Nat) : Target :=
  if n = 0xFF0F then .ifReg
  else if n = 0xFF40 then .lcdc
  else if n = 0xFF41 then .stat
  else if n = 0xFF44 then .ly
  else if n = 0xFF45 then .lyc
  else if n = 0xFF50 then .bootOff
  else .ioPort

/-- The region table of R61, total over the address space; `overlay` is `boot_rom_enabled` (R62). -/
def route (overlay : Bool) (addr : Word) : Target :=
  let n := addr.toNat
  if n < 0x0100 && overlay then .bootRom n
  else if n < 0x8000 then .cartRom n
  else if n < 0xA000 then .vram (n - 0x8000)
  else if n < 0xC000 then .eram (n - 0xA000)
  else if n < 0xE000 then .wram (n - 0xC000)
  else if n < 0xFE00 then .wram (n - 0xE000)
  else if n < 0xFEA0 then .oam (n - 0xFE00)
  else if n < 0xFF00 then .unused
  else if n < 0xFF80 then routeIo n
  else if n < 0xFFFF then .hram (n - 0xFF80)
  else .ieReg

/-- Where `addr` leads in state `s`. -/
def State.target (s : State) (addr : Word) : Target := route s.bootRomEnabled addr

/-- The byte `read_byte(addr)` returns (R60 to R74). The byte of the external port is the free value `Config.ioRead` (R86). -/
def State.peek (s : State) (addr : Word) : Byte :=
  match s.target addr with
  | .bootRom i => Memory.read s.cfg.bootRom i
  | .cartRom i => Memory.read s.cfg.cartRom i
  | .vram i => s.ppu.vram.read i
  | .eram i => s.eram.read i
  | .wram i => s.wram.read i
  | .oam i => s.ppu.oam.read i
  | .unused => 0x00
  | .ifReg => s.cfg.intUpperBits ++ s.iflags
  | .lcdc => s.ppu.lcdc
  | .stat => s.ppu.readStat
  | .ly => s.ppu.ly
  | .lyc => s.ppu.lyc
  | .bootOff => 0xFF
  | .ioPort => Config.ioRead s.ioLog addr
  | .hram i => s.hram.read i
  | .ieReg => s.cfg.intUpperBits ++ s.ie

/-- What reading `addr` does besides returning the byte: nothing (R80), but for the external port, which sees the access (R86). -/
def State.noteRead (s : State) (addr : Word) : State :=
  match s.target addr with
  | .ioPort => { s with ioLog := .read addr :: s.ioLog }
  | _ => s

/-- `read_byte(addr)` (R60): the byte, and the state after the access. -/
def readByte (addr : Word) (s : State) : Byte × State := (s.peek addr, s.noteRead addr)

/-- `disable_boot_rom()` (R87), by a non-zero write to BOOTOFF or by the host. -/
def State.disableBootRom (s : State) : State := { s with bootRomEnabled := false }

/-- `write_byte(addr, v)` (R60 to R74, R85). -/
def writeByte (addr : Word) (v : Byte) (s : State) : Access :=
  match s.target addr with
  | .bootRom _ | .cartRom _ =>
    match s.cfg.romWrite with
    | .ignore => .done s
    | .fault => .fatal (s.raise (.romWrite addr))
  | .vram i => .done { s with ppu := s.ppu.writeVram i v }
  | .eram i => .done { s with eram := s.eram.write i v }
  | .wram i => .done { s with wram := s.wram.write i v }
  | .oam i => .done { s with ppu := s.ppu.writeOam i v }
  | .unused => .fatal (s.raise (.unusedWrite addr))
  | .ifReg => .done { s with iflags := v.extractLsb' 0 5 }
  | .lcdc => .done { s with ppu := s.ppu.writeLcdc v }
  | .stat => .done { s with ppu := s.ppu.writeStat v }
  | .ly => .done s
  | .lyc => .done { s with ppu := s.ppu.writeLyc v }
  | .bootOff => .done (if v = 0 then s else s.disableBootRom)
  | .ioPort => .done { s with ioLog := .write addr v :: s.ioLog }
  | .hram i => .done { s with hram := s.hram.write i v }
  | .ieReg => .done { s with ie := v.extractLsb' 0 5 }

/-- `read_word(addr)` of R75: low byte first, the second address wrapping. -/
def readWord (addr : Word) (s : State) : Word × State :=
  let lo := readByte addr s
  let hi := readByte (addr + 1) lo.2
  (joinBytes hi.1 lo.1, hi.2)

/-- `write_word(addr, v)` of R76: low byte first, the second address wrapping. -/
def writeWord (addr : Word) (v : Word) (s : State) : Access :=
  (writeByte addr (loByte v) s).andThen (writeByte (addr + 1) (hiByte v))

/-! ## The stack -/

/-- `Push16(v)` of R164: the high byte to sp-1, then the low byte to sp-2, then sp drops by 2. -/
def push16 (v : Word) (s : State) : Access :=
  ((writeByte (s.sp - 1) (hiByte v) s).andThen (writeByte (s.sp - 2) (loByte v))).map
    fun t => { t with sp := t.sp - 2 }

/-- `Pop16()` of R165: the low byte from sp, then the high byte from sp+1, then sp rises by 2. -/
def pop16 (s : State) : Word × State :=
  let v := readWord s.sp s
  (v.1, { v.2 with sp := v.2.sp + 2 })

/-! ## Interrupts: taking one and returning from one -/

/-- The least `i` in 0..4 with `pend[i] = 1` (R353); the sources are tried in the order of their bits. -/
def firstSource (pend : IntSet) : Nat :=
  if pend.getLsbD 0 then 0
  else if pend.getLsbD 1 then 1
  else if pend.getLsbD 2 then 2
  else if pend.getLsbD 3 then 3
  else 4

/-- The vector `0x0040 + 8*n` of source `n` (R355). -/
def vectorOf (n : Nat) : Word := BitVec.ofNat 16 (0x0040 + 8 * n)

/-- `Dispatch(pend)` of R354: interrupts off, the serviced bit cleared, pc pushed, pc at the vector. -/
def takeInterrupt (pend : IntSet) (s : State) : Access :=
  let n := firstSource pend
  let t := { s with ime := false, imeScheduled := false, iflags := s.iflags &&& ~~~(1#5 <<< n) }
  (push16 t.pc t).map fun u => u.jumpTo (vectorOf n) u.cfg.cycles.dispatch

/-- The return from an interrupt (R260): pc is popped and interrupts are enabled at once. -/
def returnFromInterrupt (s : State) : State :=
  let v := pop16 s
  { v.2 with pc := v.1, ime := true }

/-! ## The host between steps -/

/-- The host's `wake` input (R367). -/
def State.wake (s : State) : State := { s with stopped := false }

/-- The host's `Reset()` (R380): every piece of state at its reset value, the parameters and ROM images kept. The
connections to the host (what the port has seen, the requests still to come) are not the block's state and stay. -/
def State.hostReset (s : State) : State :=
  { State.resetWith s.cfg with ioLog := s.ioLog, extIrq := s.extIrq }

/-- Why a block cannot be constructed (R346). -/
inductive ConstructError where
  /-- `BOOT_ROM` is not exactly 256 bytes. -/
  | bootRomSize
  /-- `CART_ROM` is shorter than 0x8000 bytes. -/
  | cartRomSize
deriving DecidableEq, Repr

/-- Construction (R381): the images are checked for size (R346) and the block is reset. Cartridge bytes past offset 0x7FFF
are never read (R64) and are not kept. -/
def construct (bootRom cartRom : List Byte) (p : Params) : Except ConstructError State :=
  if bootRom.length ≠ 256 then .error .bootRomSize
  else if cartRom.length < 0x8000 then .error .cartRomSize
  else .ok (State.resetWith
    { p with bootRom := Memory.load [] 0 bootRom, cartRom := Memory.load [] 0 (cartRom.take 0x8000) })

end Sys2Proof.Machine
end

