-- ==== Sys2Proof/Machine/Operands.lean ====
section
/-! DEFINITION. Every operand form: registers, pairs, the indirect-HL byte and immediate8, each read and written through one accessor (R11, R20 to R24, R104, R105). -/

namespace Sys2Proof.Machine

/-- `x[i]` read (R9). -/
def Regs.get (r : Regs) : Reg8 → Byte
  | .b => r.b | .c => r.c | .d => r.d | .e => r.e | .h => r.h | .l => r.l | .a => r.a

/-- `x[i] <- v` (R9). -/
def Regs.set (r : Regs) (i : Reg8) (v : Byte) : Regs :=
  match i with
  | .b => { r with b := v }
  | .c => { r with c := v }
  | .d => { r with d := v }
  | .e => { r with e := v }
  | .h => { r with h := v }
  | .l => { r with l := v }
  | .a => { r with a := v }

/-- `BC = {B, C}` (R24). -/
def Regs.bc (r : Regs) : Word := joinBytes r.b r.c
/-- `DE = {D, E}` (R24). -/
def Regs.de (r : Regs) : Word := joinBytes r.d r.e
/-- `HL = {H, L}` (R24). -/
def Regs.hl (r : Regs) : Word := joinBytes r.h r.l
/-- `BC <- v` (R24). -/
def Regs.setBC (r : Regs) (v : Word) : Regs := { r with b := hiByte v, c := loByte v }
/-- `DE <- v` (R24). -/
def Regs.setDE (r : Regs) (v : Word) : Regs := { r with d := hiByte v, e := loByte v }
/-- `HL <- v` (R24). -/
def Regs.setHL (r : Regs) (v : Word) : Regs := { r with h := hiByte v, l := loByte v }

/-- `x[i]` of a state. -/
def State.reg (s : State) (i : Reg8) : Byte := s.regs.get i

/-- `x[i] <- v` in a state. -/
def State.setReg (s : State) (i : Reg8) (v : Byte) : State := { s with regs := s.regs.set i v }

/-- HL of a state. -/
def State.hl (s : State) : Word := s.regs.hl

/-- `HL <- v` in a state. -/
def State.setHL (s : State) (v : Word) : State := { s with regs := s.regs.setHL v }

/-- All four flags written. -/
def State.setFlags (s : State) (f : Flags) : State := { s with flags := f }

/-- `get_af()` (R22). -/
def State.getAF (s : State) : Word := joinBytes s.regs.a s.flags.pack

/-- `set_af(v)` (R23). -/
def State.setAF (s : State) (v : Word) : State :=
  { s with regs := { s.regs with a := hiByte v }, flags := Flags.unpack (loByte v) }

/-- `xx[p]` read (R105). -/
def State.pair (s : State) : Pair → Word
  | .bc => s.regs.bc
  | .de => s.regs.de
  | .hl => s.regs.hl
  | .sp => s.sp

/-- `xx[p] <- v` (R105). -/
def State.setPair (s : State) (p : Pair) (v : Word) : State :=
  match p with
  | .bc => { s with regs := s.regs.setBC v }
  | .de => { s with regs := s.regs.setDE v }
  | .hl => { s with regs := s.regs.setHL v }
  | .sp => { s with sp := v }

/-- `xs[p]` read (R105, R164). -/
def State.stackPair (s : State) : StackPair → Word
  | .bc => s.regs.bc
  | .de => s.regs.de
  | .hl => s.regs.hl
  | .af => s.getAF

/-- `xs[p] <- v` (R105, R165, R166). -/
def State.setStackPair (s : State) (q : StackPair) (v : Word) : State :=
  match q with
  | .bc => { s with regs := s.regs.setBC v }
  | .de => { s with regs := s.regs.setDE v }
  | .hl => { s with regs := s.regs.setHL v }
  | .af => s.setAF v

/-- The address an accumulator load through BC or DE uses (R135 to R138). -/
def State.indPair (s : State) : IndPair → Word
  | .bc => s.regs.bc
  | .de => s.regs.de

/-- HL after the post-step (R139 to R142). -/
def PostStep.apply : PostStep → Word → Word
  | .inc, v => v + 1
  | .dec, v => v - 1

/-- `Rd8(s)` of R11: the byte, and the state after the access. -/
def readSrc (v : Src8) (s : State) : Byte × State :=
  match v with
  | .reg r => (s.reg r, s)
  | .atHL => readByte s.hl s
  | .imm n => (n, s)

/-- `Rd8` of a writable operand (R11). -/
def readLoc (d : Loc8) (s : State) : Byte × State :=
  match d with
  | .reg r => (s.reg r, s)
  | .atHL => readByte s.hl s

/-- `Wr8(s, v)` of R11. -/
def writeLoc (d : Loc8) (v : Byte) (s : State) : Access :=
  match d with
  | .reg r => .done (s.setReg r v)
  | .atHL => writeByte s.hl v s

/-- The length of an accumulator operation by its operand form (R180). -/
def Src8.length : Src8 → Word
  | .reg _ => 1
  | .atHL => 1
  | .imm _ => 2

end Sys2Proof.Machine
end

