-- ==== Sys2Proof/Machine/Alu16.lean ====
section
/-! DEFINITION. 16-bit arithmetic (43_alu16.md, R210 to R213). -/

namespace Sys2Proof.Machine

/-- `ADD HL,rr` (R210). -/
def addHLPair (p : Pair) (s : State) : Result :=
  let out := addWordResult s.hl (s.pair p)
  .next (((s.setHL out.1).setFlags out.2).advance 1 (s.count (.addHL p) true))

/-- `INC rr` (R211): no flag is written. -/
def incPairOp (p : Pair) (s : State) : Result :=
  .next ((s.setPair p (s.pair p + 1)).advance 1 (s.count (.incPair p) true))

/-- `DEC rr` (R212): no flag is written. -/
def decPairOp (p : Pair) (s : State) : Result :=
  .next ((s.setPair p (s.pair p - 1)).advance 1 (s.count (.decPair p) true))

/-! ## One meaning for each instruction of the family -/

/-- `INC BC` (R211). -/
def execInc_bc (s : State) : Result := incPairOp .bc s
/-- `ADD HL,BC` (R210). -/
def execAdd_hl_bc (s : State) : Result := addHLPair .bc s
/-- `DEC BC` (R212). -/
def execDec_bc (s : State) : Result := decPairOp .bc s
/-- `INC DE` (R211). -/
def execInc_de (s : State) : Result := incPairOp .de s
/-- `ADD HL,DE` (R210). -/
def execAdd_hl_de (s : State) : Result := addHLPair .de s
/-- `DEC DE` (R212). -/
def execDec_de (s : State) : Result := decPairOp .de s
/-- `INC HL` (R211). -/
def execInc_hl (s : State) : Result := incPairOp .hl s
/-- `ADD HL,HL` (R210). -/
def execAdd_hl_hl (s : State) : Result := addHLPair .hl s
/-- `DEC HL` (R212). -/
def execDec_hl (s : State) : Result := decPairOp .hl s
/-- `INC SP` (R211). -/
def execInc_sp (s : State) : Result := incPairOp .sp s
/-- `ADD HL,SP` (R210). -/
def execAdd_hl_sp (s : State) : Result := addHLPair .sp s
/-- `DEC SP` (R212). -/
def execDec_sp (s : State) : Result := decPairOp .sp s

end Sys2Proof.Machine
end

