-- ==== Sys2Proof/Machine/Alu8.lean ====
section
/-! DEFINITION. 8-bit arithmetic and logic (42_alu8.md, R180 to R197). -/

namespace Sys2Proof.Machine

/-- The accumulator operations in every operand form (R180 to R188): the operand is read before A is written. -/
def aluOp (k : AluOp) (v : Src8) (s : State) : Result :=
  let o := readSrc v s
  let out := aluResult k s.regs.a o.1 s.flags
  .next (((o.2.setReg .a out.1).setFlags out.2).advance v.length (s.count (.alu k v) true))

/-- `INC r` and `INC (HL)` (R189, R190): no flag is written if the write is fatal. -/
def incLoc (d : Loc8) (s : State) : Result :=
  let o := readLoc d s
  let out := incResult o.1
  ((writeLoc d out.1 o.2).map fun t => (t.setFlags out.2).advance 1 (s.count (.inc8 d) true)).result

/-- `DEC r` and `DEC (HL)` (R191, R192): no flag is written if the write is fatal. -/
def decLoc (d : Loc8) (s : State) : Result :=
  let o := readLoc d s
  let out := decResult o.1
  ((writeLoc d out.1 o.2).map fun t => (t.setFlags out.2).advance 1 (s.count (.dec8 d) true)).result

/-- `DAA` (R193). -/
def decimalAdjust (s : State) : Result :=
  let out := daaResult s.regs.a s.flags
  .next (((s.setReg .a out.1).setFlags out.2).advance 1 (s.count .daa true))

/-- `CPL` (R194). -/
def complementA (s : State) : Result :=
  .next (((s.setReg .a (~~~s.regs.a)).setFlags (cplFlags s.flags)).advance 1 (s.count .cpl true))

/-- `SCF` (R195). -/
def setCarry (s : State) : Result := .next ((s.setFlags (scfFlags s.flags)).advance 1 (s.count .scf true))

/-- `CCF` (R196). -/
def complementCarry (s : State) : Result := .next ((s.setFlags (ccfFlags s.flags)).advance 1 (s.count .ccf true))

/-! ## One meaning for each instruction of the family -/

/-- `INC B` (R189). -/
def execInc_b (s : State) : Result := incLoc (.reg .b) s
/-- `DEC B` (R191). -/
def execDec_b (s : State) : Result := decLoc (.reg .b) s
/-- `INC C` (R189). -/
def execInc_c (s : State) : Result := incLoc (.reg .c) s
/-- `DEC C` (R191). -/
def execDec_c (s : State) : Result := decLoc (.reg .c) s
/-- `INC D` (R189). -/
def execInc_d (s : State) : Result := incLoc (.reg .d) s
/-- `DEC D` (R191). -/
def execDec_d (s : State) : Result := decLoc (.reg .d) s
/-- `INC E` (R189). -/
def execInc_e (s : State) : Result := incLoc (.reg .e) s
/-- `DEC E` (R191). -/
def execDec_e (s : State) : Result := decLoc (.reg .e) s
/-- `INC H` (R189). -/
def execInc_h (s : State) : Result := incLoc (.reg .h) s
/-- `DEC H` (R191). -/
def execDec_h (s : State) : Result := decLoc (.reg .h) s
/-- `DAA` (R193). -/
def execDaa (s : State) : Result := decimalAdjust s
/-- `INC L` (R189). -/
def execInc_l (s : State) : Result := incLoc (.reg .l) s
/-- `DEC L` (R191). -/
def execDec_l (s : State) : Result := decLoc (.reg .l) s
/-- `CPL` (R194). -/
def execCpl (s : State) : Result := complementA s
/-- `INC (HL)` (R190). -/
def execInc_atHL (s : State) : Result := incLoc .atHL s
/-- `DEC (HL)` (R192). -/
def execDec_atHL (s : State) : Result := decLoc .atHL s
/-- `SCF` (R195). -/
def execScf (s : State) : Result := setCarry s
/-- `INC A` (R189). -/
def execInc_a (s : State) : Result := incLoc (.reg .a) s
/-- `DEC A` (R191). -/
def execDec_a (s : State) : Result := decLoc (.reg .a) s
/-- `CCF` (R196). -/
def execCcf (s : State) : Result := complementCarry s
/-- `ADD A,B` (R181). -/
def execAdd_a_b (s : State) : Result := aluOp .add (.reg .b) s
/-- `ADD A,C` (R181). -/
def execAdd_a_c (s : State) : Result := aluOp .add (.reg .c) s
/-- `ADD A,D` (R181). -/
def execAdd_a_d (s : State) : Result := aluOp .add (.reg .d) s
/-- `ADD A,E` (R181). -/
def execAdd_a_e (s : State) : Result := aluOp .add (.reg .e) s
/-- `ADD A,H` (R181). -/
def execAdd_a_h (s : State) : Result := aluOp .add (.reg .h) s
/-- `ADD A,L` (R181). -/
def execAdd_a_l (s : State) : Result := aluOp .add (.reg .l) s
/-- `ADD A,(HL)` (R181). -/
def execAdd_a_atHL (s : State) : Result := aluOp .add .atHL s
/-- `ADD A,A` (R181). -/
def execAdd_a_a (s : State) : Result := aluOp .add (.reg .a) s
/-- `ADC A,B` (R182). -/
def execAdc_a_b (s : State) : Result := aluOp .adc (.reg .b) s
/-- `ADC A,C` (R182). -/
def execAdc_a_c (s : State) : Result := aluOp .adc (.reg .c) s
/-- `ADC A,D` (R182). -/
def execAdc_a_d (s : State) : Result := aluOp .adc (.reg .d) s
/-- `ADC A,E` (R182). -/
def execAdc_a_e (s : State) : Result := aluOp .adc (.reg .e) s
/-- `ADC A,H` (R182). -/
def execAdc_a_h (s : State) : Result := aluOp .adc (.reg .h) s
/-- `ADC A,L` (R182). -/
def execAdc_a_l (s : State) : Result := aluOp .adc (.reg .l) s
/-- `ADC A,(HL)` (R182). -/
def execAdc_a_atHL (s : State) : Result := aluOp .adc .atHL s
/-- `ADC A,A` (R182). -/
def execAdc_a_a (s : State) : Result := aluOp .adc (.reg .a) s
/-- `SUB B` (R183). -/
def execSub_b (s : State) : Result := aluOp .sub (.reg .b) s
/-- `SUB C` (R183). -/
def execSub_c (s : State) : Result := aluOp .sub (.reg .c) s
/-- `SUB D` (R183). -/
def execSub_d (s : State) : Result := aluOp .sub (.reg .d) s
/-- `SUB E` (R183). -/
def execSub_e (s : State) : Result := aluOp .sub (.reg .e) s
/-- `SUB H` (R183). -/
def execSub_h (s : State) : Result := aluOp .sub (.reg .h) s
/-- `SUB L` (R183). -/
def execSub_l (s : State) : Result := aluOp .sub (.reg .l) s
/-- `SUB (HL)` (R183). -/
def execSub_atHL (s : State) : Result := aluOp .sub .atHL s
/-- `SUB A` (R183). -/
def execSub_a (s : State) : Result := aluOp .sub (.reg .a) s
/-- `SBC A,B` (R184). -/
def execSbc_a_b (s : State) : Result := aluOp .sbc (.reg .b) s
/-- `SBC A,C` (R184). -/
def execSbc_a_c (s : State) : Result := aluOp .sbc (.reg .c) s
/-- `SBC A,D` (R184). -/
def execSbc_a_d (s : State) : Result := aluOp .sbc (.reg .d) s
/-- `SBC A,E` (R184). -/
def execSbc_a_e (s : State) : Result := aluOp .sbc (.reg .e) s
/-- `SBC A,H` (R184). -/
def execSbc_a_h (s : State) : Result := aluOp .sbc (.reg .h) s
/-- `SBC A,L` (R184). -/
def execSbc_a_l (s : State) : Result := aluOp .sbc (.reg .l) s
/-- `SBC A,(HL)` (R184). -/
def execSbc_a_atHL (s : State) : Result := aluOp .sbc .atHL s
/-- `SBC A,A` (R184). -/
def execSbc_a_a (s : State) : Result := aluOp .sbc (.reg .a) s
/-- `AND B` (R185). -/
def execAnd_b (s : State) : Result := aluOp .and (.reg .b) s
/-- `AND C` (R185). -/
def execAnd_c (s : State) : Result := aluOp .and (.reg .c) s
/-- `AND D` (R185). -/
def execAnd_d (s : State) : Result := aluOp .and (.reg .d) s
/-- `AND E` (R185). -/
def execAnd_e (s : State) : Result := aluOp .and (.reg .e) s
/-- `AND H` (R185). -/
def execAnd_h (s : State) : Result := aluOp .and (.reg .h) s
/-- `AND L` (R185). -/
def execAnd_l (s : State) : Result := aluOp .and (.reg .l) s
/-- `AND (HL)` (R185). -/
def execAnd_atHL (s : State) : Result := aluOp .and .atHL s
/-- `AND A` (R185). -/
def execAnd_a (s : State) : Result := aluOp .and (.reg .a) s
/-- `XOR B` (R186). -/
def execXor_b (s : State) : Result := aluOp .xor (.reg .b) s
/-- `XOR C` (R186). -/
def execXor_c (s : State) : Result := aluOp .xor (.reg .c) s
/-- `XOR D` (R186). -/
def execXor_d (s : State) : Result := aluOp .xor (.reg .d) s
/-- `XOR E` (R186). -/
def execXor_e (s : State) : Result := aluOp .xor (.reg .e) s
/-- `XOR H` (R186). -/
def execXor_h (s : State) : Result := aluOp .xor (.reg .h) s
/-- `XOR L` (R186). -/
def execXor_l (s : State) : Result := aluOp .xor (.reg .l) s
/-- `XOR (HL)` (R186). -/
def execXor_atHL (s : State) : Result := aluOp .xor .atHL s
/-- `XOR A` (R186). -/
def execXor_a (s : State) : Result := aluOp .xor (.reg .a) s
/-- `OR B` (R187). -/
def execOr_b (s : State) : Result := aluOp .or (.reg .b) s
/-- `OR C` (R187). -/
def execOr_c (s : State) : Result := aluOp .or (.reg .c) s
/-- `OR D` (R187). -/
def execOr_d (s : State) : Result := aluOp .or (.reg .d) s
/-- `OR E` (R187). -/
def execOr_e (s : State) : Result := aluOp .or (.reg .e) s
/-- `OR H` (R187). -/
def execOr_h (s : State) : Result := aluOp .or (.reg .h) s
/-- `OR L` (R187). -/
def execOr_l (s : State) : Result := aluOp .or (.reg .l) s
/-- `OR (HL)` (R187). -/
def execOr_atHL (s : State) : Result := aluOp .or .atHL s
/-- `OR A` (R187). -/
def execOr_a (s : State) : Result := aluOp .or (.reg .a) s
/-- `CP B` (R188). -/
def execCp_b (s : State) : Result := aluOp .cp (.reg .b) s
/-- `CP C` (R188). -/
def execCp_c (s : State) : Result := aluOp .cp (.reg .c) s
/-- `CP D` (R188). -/
def execCp_d (s : State) : Result := aluOp .cp (.reg .d) s
/-- `CP E` (R188). -/
def execCp_e (s : State) : Result := aluOp .cp (.reg .e) s
/-- `CP H` (R188). -/
def execCp_h (s : State) : Result := aluOp .cp (.reg .h) s
/-- `CP L` (R188). -/
def execCp_l (s : State) : Result := aluOp .cp (.reg .l) s
/-- `CP (HL)` (R188). -/
def execCp_atHL (s : State) : Result := aluOp .cp .atHL s
/-- `CP A` (R188). -/
def execCp_a (s : State) : Result := aluOp .cp (.reg .a) s
/-- `ADD A,n` (R181). -/
def execAdd_a_n (n : Byte) (s : State) : Result := aluOp .add (.imm n) s
/-- `ADC A,n` (R182). -/
def execAdc_a_n (n : Byte) (s : State) : Result := aluOp .adc (.imm n) s
/-- `SUB n` (R183). -/
def execSub_n (n : Byte) (s : State) : Result := aluOp .sub (.imm n) s
/-- `SBC A,n` (R184). -/
def execSbc_a_n (n : Byte) (s : State) : Result := aluOp .sbc (.imm n) s
/-- `AND n` (R185). -/
def execAnd_n (n : Byte) (s : State) : Result := aluOp .and (.imm n) s
/-- `XOR n` (R186). -/
def execXor_n (n : Byte) (s : State) : Result := aluOp .xor (.imm n) s
/-- `OR n` (R187). -/
def execOr_n (n : Byte) (s : State) : Result := aluOp .or (.imm n) s
/-- `CP n` (R188). -/
def execCp_n (n : Byte) (s : State) : Result := aluOp .cp (.imm n) s

end Sys2Proof.Machine
end

