-- ==== Sys2Proof/Machine/Control.lean ====
section
/-! DEFINITION. Control transfer (45_control.md, R250 to R263). No instruction of this file writes a flag. -/

namespace Sys2Proof.Machine

/-- `(pc +_16 2) +_16 sext_16(e8)`, the target of a relative jump (R254). -/
def State.relTarget (s : State) (e : Byte) : Word := (s.pc + 2) + sext16 e

/-- `JP nn` (R251). -/
def jumpAbs (nn : Word) (s : State) : Result := .next (s.jumpTo nn (s.count (.jp nn) true))

/-- `JP cc,nn` (R252). -/
def jumpAbsCond (cc : Cond) (nn : Word) (s : State) : Result :=
  if cc.holds s.flags then .next (s.jumpTo nn (s.count (.jpCond cc nn) true))
  else .next (s.advance 3 (s.count (.jpCond cc nn) false))

/-- `JP HL` (R253): the target is the register value. -/
def jumpHL (s : State) : Result := .next (s.jumpTo s.hl (s.count .jpHL true))

/-- `JR e` (R254). -/
def jumpRel (e : Byte) (s : State) : Result := .next (s.jumpTo (s.relTarget e) (s.count (.jr e) true))

/-- `JR cc,e` (R255). -/
def jumpRelCond (cc : Cond) (e : Byte) (s : State) : Result :=
  if cc.holds s.flags then .next (s.jumpTo (s.relTarget e) (s.count (.jrCond cc e) true))
  else .next (s.advance 2 (s.count (.jrCond cc e) false))

/-- A return address pushed, then pc at the target: the common part of CALL and RST (R256, R257, R261). -/
def pushAndJump (back target : Word) (n : Nat) (s : State) : Result :=
  ((push16 back s).map fun t => t.jumpTo target n).result

/-- `CALL nn` (R256): the pushed value is pc+3. -/
def callAbs (nn : Word) (s : State) : Result := pushAndJump (s.pc + 3) nn (s.count (.call nn) true) s

/-- `CALL cc,nn` (R257): not taken, nothing is pushed. -/
def callAbsCond (cc : Cond) (nn : Word) (s : State) : Result :=
  if cc.holds s.flags then pushAndJump (s.pc + 3) nn (s.count (.callCond cc nn) true) s
  else .next (s.advance 3 (s.count (.callCond cc nn) false))

/-- A return address popped into pc: the common part of R258 and R259. -/
def popAndJump (n : Nat) (s : State) : Result :=
  let v := pop16 s
  .next (v.2.jumpTo v.1 n)

/-- `RET` (R258). -/
def returnOp (s : State) : Result := popAndJump (s.count .ret true) s

/-- `RET cc` (R259): not taken, the stack is not read. -/
def returnCond (cc : Cond) (s : State) : Result :=
  if cc.holds s.flags then popAndJump (s.count (.retCond cc) true) s
  else .next (s.advance 1 (s.count (.retCond cc) false))

/-- `RETI` (R260): `ime_scheduled` is left as it is. -/
def returnInterrupt (s : State) : Result := .next { returnFromInterrupt s with cycles := s.count .reti true }

/-- The fixed reset vector `y * 8` of RST (R107, R261). -/
def rstVector (y : BitVec 3) : Word := BitVec.ofNat 16 (y.toNat * 8)

/-- `RST t` (R261): the pushed value is pc+1. -/
def restart (y : BitVec 3) (s : State) : Result := pushAndJump (s.pc + 1) (rstVector y) (s.count (.rst y) true) s

/-! ## One meaning for each instruction of the family -/

/-- `JR e` (R254). -/
def execJr_e (e : Byte) (s : State) : Result := jumpRel e s
/-- `JR NZ,e` (R255). -/
def execJr_nz_e (e : Byte) (s : State) : Result := jumpRelCond .nz e s
/-- `JR Z,e` (R255). -/
def execJr_z_e (e : Byte) (s : State) : Result := jumpRelCond .z e s
/-- `JR NC,e` (R255). -/
def execJr_nc_e (e : Byte) (s : State) : Result := jumpRelCond .nc e s
/-- `JR C,e` (R255). -/
def execJr_c_e (e : Byte) (s : State) : Result := jumpRelCond .c e s
/-- `RET NZ` (R259). -/
def execRet_nz (s : State) : Result := returnCond .nz s
/-- `JP NZ,nn` (R252). -/
def execJp_nz_nn (nn : Word) (s : State) : Result := jumpAbsCond .nz nn s
/-- `JP nn` (R251). -/
def execJp_nn (nn : Word) (s : State) : Result := jumpAbs nn s
/-- `CALL NZ,nn` (R257). -/
def execCall_nz_nn (nn : Word) (s : State) : Result := callAbsCond .nz nn s
/-- `RST 00` (R261). -/
def execRst_00 (s : State) : Result := restart 0 s
/-- `RET Z` (R259). -/
def execRet_z (s : State) : Result := returnCond .z s
/-- `RET` (R258). -/
def execRet (s : State) : Result := returnOp s
/-- `JP Z,nn` (R252). -/
def execJp_z_nn (nn : Word) (s : State) : Result := jumpAbsCond .z nn s
/-- `CALL Z,nn` (R257). -/
def execCall_z_nn (nn : Word) (s : State) : Result := callAbsCond .z nn s
/-- `CALL nn` (R256). -/
def execCall_nn (nn : Word) (s : State) : Result := callAbs nn s
/-- `RST 08` (R261). -/
def execRst_08 (s : State) : Result := restart 1 s
/-- `RET NC` (R259). -/
def execRet_nc (s : State) : Result := returnCond .nc s
/-- `JP NC,nn` (R252). -/
def execJp_nc_nn (nn : Word) (s : State) : Result := jumpAbsCond .nc nn s
/-- `CALL NC,nn` (R257). -/
def execCall_nc_nn (nn : Word) (s : State) : Result := callAbsCond .nc nn s
/-- `RST 10` (R261). -/
def execRst_10 (s : State) : Result := restart 2 s
/-- `RET C` (R259). -/
def execRet_c (s : State) : Result := returnCond .c s
/-- `RETI` (R260). -/
def execReti (s : State) : Result := returnInterrupt s
/-- `JP C,nn` (R252). -/
def execJp_c_nn (nn : Word) (s : State) : Result := jumpAbsCond .c nn s
/-- `CALL C,nn` (R257). -/
def execCall_c_nn (nn : Word) (s : State) : Result := callAbsCond .c nn s
/-- `RST 18` (R261). -/
def execRst_18 (s : State) : Result := restart 3 s
/-- `RST 20` (R261). -/
def execRst_20 (s : State) : Result := restart 4 s
/-- `JP HL` (R253). -/
def execJp_hl (s : State) : Result := jumpHL s
/-- `RST 28` (R261). -/
def execRst_28 (s : State) : Result := restart 5 s
/-- `RST 30` (R261). -/
def execRst_30 (s : State) : Result := restart 6 s
/-- `RST 38` (R261). -/
def execRst_38 (s : State) : Result := restart 7 s

end Sys2Proof.Machine
end

