-- ==== Sys2Proof/Machine/Loads16.lean ====
section
/-! DEFINITION. The 16-bit loads, the stack instructions and the SP additions (41_loads16_stack.md, R160 to R169). -/

namespace Sys2Proof.Machine

/-- `LD rr,nn` (R160). -/
def loadPairImm (p : Pair) (nn : Word) (s : State) : Result :=
  .next ((s.setPair p nn).advance 3 (s.count (.ldPairImm p nn) true))

/-- `LD (nn),SP` (R161): two byte writes, low byte first; the second is not made if the first is fatal. -/
def storeAbsSP (nn : Word) (s : State) : Result :=
  ((writeWord nn s.sp s).map fun t => t.advance 3 (s.count (.ldAbsSP nn) true)).result

/-- `LD SP,HL` (R162). -/
def loadSPHL (s : State) : Result := .next (({ s with sp := s.hl }).advance 1 (s.count .ldSPHL true))

/-- `LD HL,SP+e` (R163). -/
def loadHLSPe (e : Byte) (s : State) : Result :=
  .next (((s.setHL (s.sp + sext16 e)).setFlags (spAddFlags s.sp e)).advance 2 (s.count (.ldHLSPe e) true))

/-- `PUSH rr` (R164). -/
def pushPair (q : StackPair) (s : State) : Result :=
  ((push16 (s.stackPair q) s).map fun t => t.advance 1 (s.count (.push q) true)).result

/-- `POP rr` and `POP AF` (R165, R166). -/
def popPair (q : StackPair) (s : State) : Result :=
  let v := pop16 s
  .next ((v.2.setStackPair q v.1).advance 1 (s.count (.pop q) true))

/-- `ADD SP,e` (R167). -/
def addSPImm (e : Byte) (s : State) : Result :=
  .next (({ s with sp := s.sp + sext16 e, flags := spAddFlags s.sp e }).advance 2 (s.count (.addSPe e) true))

/-! ## One meaning for each instruction of the family -/

/-- `LD BC,nn` (R160). -/
def execLd_bc_nn (nn : Word) (s : State) : Result := loadPairImm .bc nn s
/-- `LD (nn),SP` (R161). -/
def execLd_atNN_sp (nn : Word) (s : State) : Result := storeAbsSP nn s
/-- `LD DE,nn` (R160). -/
def execLd_de_nn (nn : Word) (s : State) : Result := loadPairImm .de nn s
/-- `LD HL,nn` (R160). -/
def execLd_hl_nn (nn : Word) (s : State) : Result := loadPairImm .hl nn s
/-- `LD SP,nn` (R160). -/
def execLd_sp_nn (nn : Word) (s : State) : Result := loadPairImm .sp nn s
/-- `POP BC` (R165). -/
def execPop_bc (s : State) : Result := popPair .bc s
/-- `PUSH BC` (R164). -/
def execPush_bc (s : State) : Result := pushPair .bc s
/-- `POP DE` (R165). -/
def execPop_de (s : State) : Result := popPair .de s
/-- `PUSH DE` (R164). -/
def execPush_de (s : State) : Result := pushPair .de s
/-- `POP HL` (R165). -/
def execPop_hl (s : State) : Result := popPair .hl s
/-- `PUSH HL` (R164). -/
def execPush_hl (s : State) : Result := pushPair .hl s
/-- `ADD SP,e` (R167). -/
def execAdd_sp_e (e : Byte) (s : State) : Result := addSPImm e s
/-- `POP AF` (R166). -/
def execPop_af (s : State) : Result := popPair .af s
/-- `PUSH AF` (R164). -/
def execPush_af (s : State) : Result := pushPair .af s
/-- `LD HL,SP+e` (R163). -/
def execLd_hl_spE (e : Byte) (s : State) : Result := loadHLSPe e s
/-- `LD SP,HL` (R162). -/
def execLd_sp_hl (s : State) : Result := loadSPHL s

end Sys2Proof.Machine
end

