-- ==== Sys2Proof/Machine/Loads8.lean ====
section
/-! DEFINITION. The 8-bit loads (40_loads8.md, R130 to R149). No load reads or writes a flag. -/

namespace Sys2Proof.Machine

/-- `LD r,r'` (R130). -/
def loadRegReg (dst src : Reg8) (s : State) : Result :=
  .next ((s.setReg dst (s.reg src)).advance 1 (s.count (.ldRegReg dst src) true))

/-- `LD r,n` (R131). -/
def loadRegImm (dst : Reg8) (n : Byte) (s : State) : Result :=
  .next ((s.setReg dst n).advance 2 (s.count (.ldRegImm dst n) true))

/-- A register loaded with the byte at `addr`: the common part of R132, R135, R136, R144, R146 and R148. -/
def loadFrom (dst : Reg8) (addr : Word) (len : Word) (n : Nat) (s : State) : Result :=
  let v := readByte addr s
  .next ((v.2.setReg dst v.1).advance len n)

/-- A byte stored at `addr`: the common part of R133, R134, R137, R138, R143, R145 and R147. -/
def storeTo (addr : Word) (v : Byte) (len : Word) (n : Nat) (s : State) : Result :=
  ((writeByte addr v s).map fun t => t.advance len n).result

/-- `LD r,(HL)` (R132). -/
def loadRegHL (dst : Reg8) (s : State) : Result := loadFrom dst s.hl 1 (s.count (.ldRegHL dst) true) s

/-- `LD (HL),r` (R133). -/
def storeHLReg (r : Reg8) (s : State) : Result := storeTo s.hl (s.reg r) 1 (s.count (.ldHLReg r) true) s

/-- `LD (HL),n` (R134). -/
def storeHLImm (n : Byte) (s : State) : Result := storeTo s.hl n 2 (s.count (.ldHLImm n) true) s

/-- `LD A,(BC)` and `LD A,(DE)` (R135, R136). -/
def loadAPair (p : IndPair) (s : State) : Result := loadFrom .a (s.indPair p) 1 (s.count (.ldAPair p) true) s

/-- `LD (BC),A` and `LD (DE),A` (R137, R138). -/
def storePairA (p : IndPair) (s : State) : Result := storeTo (s.indPair p) s.regs.a 1 (s.count (.ldPairA p) true) s

/-- `LD A,(HL+)` and `LD A,(HL-)` (R139, R140): HL changes after the read. -/
def loadAHLPost (k : PostStep) (s : State) : Result :=
  let v := readByte s.hl s
  .next (((v.2.setReg .a v.1).setHL (k.apply s.hl)).advance 1 (s.count (.ldAHLPost k) true))

/-- `LD (HL+),A` and `LD (HL-),A` (R141, R142): HL changes after the write, and not if the write is fatal. -/
def storeHLPostA (k : PostStep) (s : State) : Result :=
  ((writeByte s.hl s.regs.a s).map fun t => (t.setHL (k.apply s.hl)).advance 1 (s.count (.ldHLPostA k) true)).result

/-- `LDH (n),A` (R143). -/
def storeHighImm (n : Byte) (s : State) : Result := storeTo (highAddr n) s.regs.a 2 (s.count (.ldhImmA n) true) s

/-- `LDH A,(n)` (R144). -/
def loadHighImm (n : Byte) (s : State) : Result := loadFrom .a (highAddr n) 2 (s.count (.ldhAImm n) true) s

/-- `LD (C),A` (R145). -/
def storeHighC (s : State) : Result := storeTo (highAddr s.regs.c) s.regs.a 1 (s.count .ldhCA true) s

/-- `LD A,(C)` (R146). -/
def loadHighC (s : State) : Result := loadFrom .a (highAddr s.regs.c) 1 (s.count .ldhAC true) s

/-- `LD (nn),A` (R147). -/
def storeAbsA (nn : Word) (s : State) : Result := storeTo nn s.regs.a 3 (s.count (.ldAbsA nn) true) s

/-- `LD A,(nn)` (R148). -/
def loadAAbs (nn : Word) (s : State) : Result := loadFrom .a nn 3 (s.count (.ldAAbs nn) true) s

/-! ## One meaning for each instruction of the family -/

/-- `LD (BC),A` (R137). -/
def execLd_atBC_a (s : State) : Result := storePairA .bc s
/-- `LD B,n` (R131). -/
def execLd_b_n (n : Byte) (s : State) : Result := loadRegImm .b n s
/-- `LD A,(BC)` (R135). -/
def execLd_a_atBC (s : State) : Result := loadAPair .bc s
/-- `LD C,n` (R131). -/
def execLd_c_n (n : Byte) (s : State) : Result := loadRegImm .c n s
/-- `LD (DE),A` (R138). -/
def execLd_atDE_a (s : State) : Result := storePairA .de s
/-- `LD D,n` (R131). -/
def execLd_d_n (n : Byte) (s : State) : Result := loadRegImm .d n s
/-- `LD A,(DE)` (R136). -/
def execLd_a_atDE (s : State) : Result := loadAPair .de s
/-- `LD E,n` (R131). -/
def execLd_e_n (n : Byte) (s : State) : Result := loadRegImm .e n s
/-- `LD (HL+),A` (R141). -/
def execLd_atHLinc_a (s : State) : Result := storeHLPostA .inc s
/-- `LD H,n` (R131). -/
def execLd_h_n (n : Byte) (s : State) : Result := loadRegImm .h n s
/-- `LD A,(HL+)` (R139). -/
def execLd_a_atHLinc (s : State) : Result := loadAHLPost .inc s
/-- `LD L,n` (R131). -/
def execLd_l_n (n : Byte) (s : State) : Result := loadRegImm .l n s
/-- `LD (HL-),A` (R142). -/
def execLd_atHLdec_a (s : State) : Result := storeHLPostA .dec s
/-- `LD (HL),n` (R134). -/
def execLd_atHL_n (n : Byte) (s : State) : Result := storeHLImm n s
/-- `LD A,(HL-)` (R140). -/
def execLd_a_atHLdec (s : State) : Result := loadAHLPost .dec s
/-- `LD A,n` (R131). -/
def execLd_a_n (n : Byte) (s : State) : Result := loadRegImm .a n s
/-- `LD B,B` (R130). -/
def execLd_b_b (s : State) : Result := loadRegReg .b .b s
/-- `LD B,C` (R130). -/
def execLd_b_c (s : State) : Result := loadRegReg .b .c s
/-- `LD B,D` (R130). -/
def execLd_b_d (s : State) : Result := loadRegReg .b .d s
/-- `LD B,E` (R130). -/
def execLd_b_e (s : State) : Result := loadRegReg .b .e s
/-- `LD B,H` (R130). -/
def execLd_b_h (s : State) : Result := loadRegReg .b .h s
/-- `LD B,L` (R130). -/
def execLd_b_l (s : State) : Result := loadRegReg .b .l s
/-- `LD B,(HL)` (R132). -/
def execLd_b_atHL (s : State) : Result := loadRegHL .b s
/-- `LD B,A` (R130). -/
def execLd_b_a (s : State) : Result := loadRegReg .b .a s
/-- `LD C,B` (R130). -/
def execLd_c_b (s : State) : Result := loadRegReg .c .b s
/-- `LD C,C` (R130). -/
def execLd_c_c (s : State) : Result := loadRegReg .c .c s
/-- `LD C,D` (R130). -/
def execLd_c_d (s : State) : Result := loadRegReg .c .d s
/-- `LD C,E` (R130). -/
def execLd_c_e (s : State) : Result := loadRegReg .c .e s
/-- `LD C,H` (R130). -/
def execLd_c_h (s : State) : Result := loadRegReg .c .h s
/-- `LD C,L` (R130). -/
def execLd_c_l (s : State) : Result := loadRegReg .c .l s
/-- `LD C,(HL)` (R132). -/
def execLd_c_atHL (s : State) : Result := loadRegHL .c s
/-- `LD C,A` (R130). -/
def execLd_c_a (s : State) : Result := loadRegReg .c .a s
/-- `LD D,B` (R130). -/
def execLd_d_b (s : State) : Result := loadRegReg .d .b s
/-- `LD D,C` (R130). -/
def execLd_d_c (s : State) : Result := loadRegReg .d .c s
/-- `LD D,D` (R130). -/
def execLd_d_d (s : State) : Result := loadRegReg .d .d s
/-- `LD D,E` (R130). -/
def execLd_d_e (s : State) : Result := loadRegReg .d .e s
/-- `LD D,H` (R130). -/
def execLd_d_h (s : State) : Result := loadRegReg .d .h s
/-- `LD D,L` (R130). -/
def execLd_d_l (s : State) : Result := loadRegReg .d .l s
/-- `LD D,(HL)` (R132). -/
def execLd_d_atHL (s : State) : Result := loadRegHL .d s
/-- `LD D,A` (R130). -/
def execLd_d_a (s : State) : Result := loadRegReg .d .a s
/-- `LD E,B` (R130). -/
def execLd_e_b (s : State) : Result := loadRegReg .e .b s
/-- `LD E,C` (R130). -/
def execLd_e_c (s : State) : Result := loadRegReg .e .c s
/-- `LD E,D` (R130). -/
def execLd_e_d (s : State) : Result := loadRegReg .e .d s
/-- `LD E,E` (R130). -/
def execLd_e_e (s : State) : Result := loadRegReg .e .e s
/-- `LD E,H` (R130). -/
def execLd_e_h (s : State) : Result := loadRegReg .e .h s
/-- `LD E,L` (R130). -/
def execLd_e_l (s : State) : Result := loadRegReg .e .l s
/-- `LD E,(HL)` (R132). -/
def execLd_e_atHL (s : State) : Result := loadRegHL .e s
/-- `LD E,A` (R130). -/
def execLd_e_a (s : State) : Result := loadRegReg .e .a s
/-- `LD H,B` (R130). -/
def execLd_h_b (s : State) : Result := loadRegReg .h .b s
/-- `LD H,C` (R130). -/
def execLd_h_c (s : State) : Result := loadRegReg .h .c s
/-- `LD H,D` (R130). -/
def execLd_h_d (s : State) : Result := loadRegReg .h .d s
/-- `LD H,E` (R130). -/
def execLd_h_e (s : State) : Result := loadRegReg .h .e s
/-- `LD H,H` (R130). -/
def execLd_h_h (s : State) : Result := loadRegReg .h .h s
/-- `LD H,L` (R130). -/
def execLd_h_l (s : State) : Result := loadRegReg .h .l s
/-- `LD H,(HL)` (R132). -/
def execLd_h_atHL (s : State) : Result := loadRegHL .h s
/-- `LD H,A` (R130). -/
def execLd_h_a (s : State) : Result := loadRegReg .h .a s
/-- `LD L,B` (R130). -/
def execLd_l_b (s : State) : Result := loadRegReg .l .b s
/-- `LD L,C` (R130). -/
def execLd_l_c (s : State) : Result := loadRegReg .l .c s
/-- `LD L,D` (R130). -/
def execLd_l_d (s : State) : Result := loadRegReg .l .d s
/-- `LD L,E` (R130). -/
def execLd_l_e (s : State) : Result := loadRegReg .l .e s
/-- `LD L,H` (R130). -/
def execLd_l_h (s : State) : Result := loadRegReg .l .h s
/-- `LD L,L` (R130). -/
def execLd_l_l (s : State) : Result := loadRegReg .l .l s
/-- `LD L,(HL)` (R132). -/
def execLd_l_atHL (s : State) : Result := loadRegHL .l s
/-- `LD L,A` (R130). -/
def execLd_l_a (s : State) : Result := loadRegReg .l .a s
/-- `LD (HL),B` (R133). -/
def execLd_atHL_b (s : State) : Result := storeHLReg .b s
/-- `LD (HL),C` (R133). -/
def execLd_atHL_c (s : State) : Result := storeHLReg .c s
/-- `LD (HL),D` (R133). -/
def execLd_atHL_d (s : State) : Result := storeHLReg .d s
/-- `LD (HL),E` (R133). -/
def execLd_atHL_e (s : State) : Result := storeHLReg .e s
/-- `LD (HL),H` (R133). -/
def execLd_atHL_h (s : State) : Result := storeHLReg .h s
/-- `LD (HL),L` (R133). -/
def execLd_atHL_l (s : State) : Result := storeHLReg .l s
/-- `LD (HL),A` (R133). -/
def execLd_atHL_a (s : State) : Result := storeHLReg .a s
/-- `LD A,B` (R130). -/
def execLd_a_b (s : State) : Result := loadRegReg .a .b s
/-- `LD A,C` (R130). -/
def execLd_a_c (s : State) : Result := loadRegReg .a .c s
/-- `LD A,D` (R130). -/
def execLd_a_d (s : State) : Result := loadRegReg .a .d s
/-- `LD A,E` (R130). -/
def execLd_a_e (s : State) : Result := loadRegReg .a .e s
/-- `LD A,H` (R130). -/
def execLd_a_h (s : State) : Result := loadRegReg .a .h s
/-- `LD A,L` (R130). -/
def execLd_a_l (s : State) : Result := loadRegReg .a .l s
/-- `LD A,(HL)` (R132). -/
def execLd_a_atHL (s : State) : Result := loadRegHL .a s
/-- `LD A,A` (R130). -/
def execLd_a_a (s : State) : Result := loadRegReg .a .a s
/-- `LDH (n),A` (R143). -/
def execLdh_atN_a (n : Byte) (s : State) : Result := storeHighImm n s
/-- `LD (C),A` (R145). -/
def execLd_atC_a (s : State) : Result := storeHighC s
/-- `LD (nn),A` (R147). -/
def execLd_atNN_a (nn : Word) (s : State) : Result := storeAbsA nn s
/-- `LDH A,(n)` (R144). -/
def execLdh_a_atN (n : Byte) (s : State) : Result := loadHighImm n s
/-- `LD A,(C)` (R146). -/
def execLd_a_atC (s : State) : Result := loadHighC s
/-- `LD A,(nn)` (R148). -/
def execLd_a_atNN (nn : Word) (s : State) : Result := loadAAbs nn s

end Sys2Proof.Machine
end

