-- ==== Sys2Proof/Machine/Rotate.lean ====
section
/-! DEFINITION. Rotates, shifts and bit operations (44_rotate_shift_bit.md, R220 to R236). -/

namespace Sys2Proof.Machine

/-- `RLCA`, `RRCA`, `RLA`, `RRA` (R220 to R223). -/
def accRotateOp (k : AccRot) (s : State) : Result :=
  let out := accRotateResult k s.regs.a s.flags
  .next (((s.setReg .a out.1).setFlags out.2).advance 1 (s.count (.accRotate k) true))

/-- The rotates and shifts of the secondary table (R224 to R232): no flag is written if the write-back is fatal. -/
def cbRotateOp (k : CbRot) (d : Loc8) (s : State) : Result :=
  let v := readLoc d s
  let out := rotateResult k v.1 s.flags
  ((writeLoc d out.1 v.2).map fun t => (t.setFlags out.2).advance 2 (s.count (.cbRotate k d) true)).result

/-- `BIT b,s` (R233): nothing is written but the flags. -/
def bitTestOp (n : BitVec 3) (d : Loc8) (s : State) : Result :=
  let v := readLoc d s
  .next ((v.2.setFlags (bitFlags v.1 n s.flags)).advance 2 (s.count (.bitTest n d) true))

/-- `RES b,s` (R234): no flag is written. -/
def bitResetOp (n : BitVec 3) (d : Loc8) (s : State) : Result :=
  let v := readLoc d s
  ((writeLoc d (clearBit v.1 n) v.2).map fun t => t.advance 2 (s.count (.bitReset n d) true)).result

/-- `SET b,s` (R235): no flag is written. -/
def bitSetOp (n : BitVec 3) (d : Loc8) (s : State) : Result :=
  let v := readLoc d s
  ((writeLoc d (setBit v.1 n) v.2).map fun t => t.advance 2 (s.count (.bitSet n d) true)).result

/-- The secondary-table instruction that `op2` selects, by its fields x, y, z (R110, R275). -/
def cbExecute (op2 : Byte) (s : State) : Result :=
  let y : BitVec 3 := op2.extractLsb' 3 3
  let d := Loc8.ofCode (op2.extractLsb' 0 3)
  match (op2.extractLsb' 6 2).toNat with
  | 0 => cbRotateOp (CbRot.ofCode y) d s
  | 1 => bitTestOp y d s
  | 2 => bitResetOp y d s
  | _ => bitSetOp y d s

/-! ## One meaning for each instruction of the family -/

/-- `RLCA` (R220). -/
def execRlca (s : State) : Result := accRotateOp .rlca s
/-- `RRCA` (R221). -/
def execRrca (s : State) : Result := accRotateOp .rrca s
/-- `RLA` (R222). -/
def execRla (s : State) : Result := accRotateOp .rla s
/-- `RRA` (R223). -/
def execRra (s : State) : Result := accRotateOp .rra s
/-- `RLC B` (R225). -/
def execRlc_b (s : State) : Result := cbRotateOp .rlc (.reg .b) s
/-- `RLC C` (R225). -/
def execRlc_c (s : State) : Result := cbRotateOp .rlc (.reg .c) s
/-- `RLC D` (R225). -/
def execRlc_d (s : State) : Result := cbRotateOp .rlc (.reg .d) s
/-- `RLC E` (R225). -/
def execRlc_e (s : State) : Result := cbRotateOp .rlc (.reg .e) s
/-- `RLC H` (R225). -/
def execRlc_h (s : State) : Result := cbRotateOp .rlc (.reg .h) s
/-- `RLC L` (R225). -/
def execRlc_l (s : State) : Result := cbRotateOp .rlc (.reg .l) s
/-- `RLC (HL)` (R225). -/
def execRlc_atHL (s : State) : Result := cbRotateOp .rlc .atHL s
/-- `RLC A` (R225). -/
def execRlc_a (s : State) : Result := cbRotateOp .rlc (.reg .a) s
/-- `RRC B` (R226). -/
def execRrc_b (s : State) : Result := cbRotateOp .rrc (.reg .b) s
/-- `RRC C` (R226). -/
def execRrc_c (s : State) : Result := cbRotateOp .rrc (.reg .c) s
/-- `RRC D` (R226). -/
def execRrc_d (s : State) : Result := cbRotateOp .rrc (.reg .d) s
/-- `RRC E` (R226). -/
def execRrc_e (s : State) : Result := cbRotateOp .rrc (.reg .e) s
/-- `RRC H` (R226). -/
def execRrc_h (s : State) : Result := cbRotateOp .rrc (.reg .h) s
/-- `RRC L` (R226). -/
def execRrc_l (s : State) : Result := cbRotateOp .rrc (.reg .l) s
/-- `RRC (HL)` (R226). -/
def execRrc_atHL (s : State) : Result := cbRotateOp .rrc .atHL s
/-- `RRC A` (R226). -/
def execRrc_a (s : State) : Result := cbRotateOp .rrc (.reg .a) s
/-- `RL B` (R227). -/
def execRl_b (s : State) : Result := cbRotateOp .rl (.reg .b) s
/-- `RL C` (R227). -/
def execRl_c (s : State) : Result := cbRotateOp .rl (.reg .c) s
/-- `RL D` (R227). -/
def execRl_d (s : State) : Result := cbRotateOp .rl (.reg .d) s
/-- `RL E` (R227). -/
def execRl_e (s : State) : Result := cbRotateOp .rl (.reg .e) s
/-- `RL H` (R227). -/
def execRl_h (s : State) : Result := cbRotateOp .rl (.reg .h) s
/-- `RL L` (R227). -/
def execRl_l (s : State) : Result := cbRotateOp .rl (.reg .l) s
/-- `RL (HL)` (R227). -/
def execRl_atHL (s : State) : Result := cbRotateOp .rl .atHL s
/-- `RL A` (R227). -/
def execRl_a (s : State) : Result := cbRotateOp .rl (.reg .a) s
/-- `RR B` (R228). -/
def execRr_b (s : State) : Result := cbRotateOp .rr (.reg .b) s
/-- `RR C` (R228). -/
def execRr_c (s : State) : Result := cbRotateOp .rr (.reg .c) s
/-- `RR D` (R228). -/
def execRr_d (s : State) : Result := cbRotateOp .rr (.reg .d) s
/-- `RR E` (R228). -/
def execRr_e (s : State) : Result := cbRotateOp .rr (.reg .e) s
/-- `RR H` (R228). -/
def execRr_h (s : State) : Result := cbRotateOp .rr (.reg .h) s
/-- `RR L` (R228). -/
def execRr_l (s : State) : Result := cbRotateOp .rr (.reg .l) s
/-- `RR (HL)` (R228). -/
def execRr_atHL (s : State) : Result := cbRotateOp .rr .atHL s
/-- `RR A` (R228). -/
def execRr_a (s : State) : Result := cbRotateOp .rr (.reg .a) s
/-- `SLA B` (R229). -/
def execSla_b (s : State) : Result := cbRotateOp .sla (.reg .b) s
/-- `SLA C` (R229). -/
def execSla_c (s : State) : Result := cbRotateOp .sla (.reg .c) s
/-- `SLA D` (R229). -/
def execSla_d (s : State) : Result := cbRotateOp .sla (.reg .d) s
/-- `SLA E` (R229). -/
def execSla_e (s : State) : Result := cbRotateOp .sla (.reg .e) s
/-- `SLA H` (R229). -/
def execSla_h (s : State) : Result := cbRotateOp .sla (.reg .h) s
/-- `SLA L` (R229). -/
def execSla_l (s : State) : Result := cbRotateOp .sla (.reg .l) s
/-- `SLA (HL)` (R229). -/
def execSla_atHL (s : State) : Result := cbRotateOp .sla .atHL s
/-- `SLA A` (R229). -/
def execSla_a (s : State) : Result := cbRotateOp .sla (.reg .a) s
/-- `SRA B` (R230). -/
def execSra_b (s : State) : Result := cbRotateOp .sra (.reg .b) s
/-- `SRA C` (R230). -/
def execSra_c (s : State) : Result := cbRotateOp .sra (.reg .c) s
/-- `SRA D` (R230). -/
def execSra_d (s : State) : Result := cbRotateOp .sra (.reg .d) s
/-- `SRA E` (R230). -/
def execSra_e (s : State) : Result := cbRotateOp .sra (.reg .e) s
/-- `SRA H` (R230). -/
def execSra_h (s : State) : Result := cbRotateOp .sra (.reg .h) s
/-- `SRA L` (R230). -/
def execSra_l (s : State) : Result := cbRotateOp .sra (.reg .l) s
/-- `SRA (HL)` (R230). -/
def execSra_atHL (s : State) : Result := cbRotateOp .sra .atHL s
/-- `SRA A` (R230). -/
def execSra_a (s : State) : Result := cbRotateOp .sra (.reg .a) s
/-- `SWAP B` (R231). -/
def execSwap_b (s : State) : Result := cbRotateOp .swap (.reg .b) s
/-- `SWAP C` (R231). -/
def execSwap_c (s : State) : Result := cbRotateOp .swap (.reg .c) s
/-- `SWAP D` (R231). -/
def execSwap_d (s : State) : Result := cbRotateOp .swap (.reg .d) s
/-- `SWAP E` (R231). -/
def execSwap_e (s : State) : Result := cbRotateOp .swap (.reg .e) s
/-- `SWAP H` (R231). -/
def execSwap_h (s : State) : Result := cbRotateOp .swap (.reg .h) s
/-- `SWAP L` (R231). -/
def execSwap_l (s : State) : Result := cbRotateOp .swap (.reg .l) s
/-- `SWAP (HL)` (R231). -/
def execSwap_atHL (s : State) : Result := cbRotateOp .swap .atHL s
/-- `SWAP A` (R231). -/
def execSwap_a (s : State) : Result := cbRotateOp .swap (.reg .a) s
/-- `SRL B` (R232). -/
def execSrl_b (s : State) : Result := cbRotateOp .srl (.reg .b) s
/-- `SRL C` (R232). -/
def execSrl_c (s : State) : Result := cbRotateOp .srl (.reg .c) s
/-- `SRL D` (R232). -/
def execSrl_d (s : State) : Result := cbRotateOp .srl (.reg .d) s
/-- `SRL E` (R232). -/
def execSrl_e (s : State) : Result := cbRotateOp .srl (.reg .e) s
/-- `SRL H` (R232). -/
def execSrl_h (s : State) : Result := cbRotateOp .srl (.reg .h) s
/-- `SRL L` (R232). -/
def execSrl_l (s : State) : Result := cbRotateOp .srl (.reg .l) s
/-- `SRL (HL)` (R232). -/
def execSrl_atHL (s : State) : Result := cbRotateOp .srl .atHL s
/-- `SRL A` (R232). -/
def execSrl_a (s : State) : Result := cbRotateOp .srl (.reg .a) s
/-- `BIT 0,B` (R233). -/
def execBit_0_b (s : State) : Result := bitTestOp 0 (.reg .b) s
/-- `BIT 0,C` (R233). -/
def execBit_0_c (s : State) : Result := bitTestOp 0 (.reg .c) s
/-- `BIT 0,D` (R233). -/
def execBit_0_d (s : State) : Result := bitTestOp 0 (.reg .d) s
/-- `BIT 0,E` (R233). -/
def execBit_0_e (s : State) : Result := bitTestOp 0 (.reg .e) s
/-- `BIT 0,H` (R233). -/
def execBit_0_h (s : State) : Result := bitTestOp 0 (.reg .h) s
/-- `BIT 0,L` (R233). -/
def execBit_0_l (s : State) : Result := bitTestOp 0 (.reg .l) s
/-- `BIT 0,(HL)` (R233). -/
def execBit_0_atHL (s : State) : Result := bitTestOp 0 .atHL s
/-- `BIT 0,A` (R233). -/
def execBit_0_a (s : State) : Result := bitTestOp 0 (.reg .a) s
/-- `BIT 1,B` (R233). -/
def execBit_1_b (s : State) : Result := bitTestOp 1 (.reg .b) s
/-- `BIT 1,C` (R233). -/
def execBit_1_c (s : State) : Result := bitTestOp 1 (.reg .c) s
/-- `BIT 1,D` (R233). -/
def execBit_1_d (s : State) : Result := bitTestOp 1 (.reg .d) s
/-- `BIT 1,E` (R233). -/
def execBit_1_e (s : State) : Result := bitTestOp 1 (.reg .e) s
/-- `BIT 1,H` (R233). -/
def execBit_1_h (s : State) : Result := bitTestOp 1 (.reg .h) s
/-- `BIT 1,L` (R233). -/
def execBit_1_l (s : State) : Result := bitTestOp 1 (.reg .l) s
/-- `BIT 1,(HL)` (R233). -/
def execBit_1_atHL (s : State) : Result := bitTestOp 1 .atHL s
/-- `BIT 1,A` (R233). -/
def execBit_1_a (s : State) : Result := bitTestOp 1 (.reg .a) s
/-- `BIT 2,B` (R233). -/
def execBit_2_b (s : State) : Result := bitTestOp 2 (.reg .b) s
/-- `BIT 2,C` (R233). -/
def execBit_2_c (s : State) : Result := bitTestOp 2 (.reg .c) s
/-- `BIT 2,D` (R233). -/
def execBit_2_d (s : State) : Result := bitTestOp 2 (.reg .d) s
/-- `BIT 2,E` (R233). -/
def execBit_2_e (s : State) : Result := bitTestOp 2 (.reg .e) s
/-- `BIT 2,H` (R233). -/
def execBit_2_h (s : State) : Result := bitTestOp 2 (.reg .h) s
/-- `BIT 2,L` (R233). -/
def execBit_2_l (s : State) : Result := bitTestOp 2 (.reg .l) s
/-- `BIT 2,(HL)` (R233). -/
def execBit_2_atHL (s : State) : Result := bitTestOp 2 .atHL s
/-- `BIT 2,A` (R233). -/
def execBit_2_a (s : State) : Result := bitTestOp 2 (.reg .a) s
/-- `BIT 3,B` (R233). -/
def execBit_3_b (s : State) : Result := bitTestOp 3 (.reg .b) s
/-- `BIT 3,C` (R233). -/
def execBit_3_c (s : State) : Result := bitTestOp 3 (.reg .c) s
/-- `BIT 3,D` (R233). -/
def execBit_3_d (s : State) : Result := bitTestOp 3 (.reg .d) s
/-- `BIT 3,E` (R233). -/
def execBit_3_e (s : State) : Result := bitTestOp 3 (.reg .e) s
/-- `BIT 3,H` (R233). -/
def execBit_3_h (s : State) : Result := bitTestOp 3 (.reg .h) s
/-- `BIT 3,L` (R233). -/
def execBit_3_l (s : State) : Result := bitTestOp 3 (.reg .l) s
/-- `BIT 3,(HL)` (R233). -/
def execBit_3_atHL (s : State) : Result := bitTestOp 3 .atHL s
/-- `BIT 3,A` (R233). -/
def execBit_3_a (s : State) : Result := bitTestOp 3 (.reg .a) s
/-- `BIT 4,B` (R233). -/
def execBit_4_b (s : State) : Result := bitTestOp 4 (.reg .b) s
/-- `BIT 4,C` (R233). -/
def execBit_4_c (s : State) : Result := bitTestOp 4 (.reg .c) s
/-- `BIT 4,D` (R233). -/
def execBit_4_d (s : State) : Result := bitTestOp 4 (.reg .d) s
/-- `BIT 4,E` (R233). -/
def execBit_4_e (s : State) : Result := bitTestOp 4 (.reg .e) s
/-- `BIT 4,H` (R233). -/
def execBit_4_h (s : State) : Result := bitTestOp 4 (.reg .h) s
/-- `BIT 4,L` (R233). -/
def execBit_4_l (s : State) : Result := bitTestOp 4 (.reg .l) s
/-- `BIT 4,(HL)` (R233). -/
def execBit_4_atHL (s : State) : Result := bitTestOp 4 .atHL s
/-- `BIT 4,A` (R233). -/
def execBit_4_a (s : State) : Result := bitTestOp 4 (.reg .a) s
/-- `BIT 5,B` (R233). -/
def execBit_5_b (s : State) : Result := bitTestOp 5 (.reg .b) s
/-- `BIT 5,C` (R233). -/
def execBit_5_c (s : State) : Result := bitTestOp 5 (.reg .c) s
/-- `BIT 5,D` (R233). -/
def execBit_5_d (s : State) : Result := bitTestOp 5 (.reg .d) s
/-- `BIT 5,E` (R233). -/
def execBit_5_e (s : State) : Result := bitTestOp 5 (.reg .e) s
/-- `BIT 5,H` (R233). -/
def execBit_5_h (s : State) : Result := bitTestOp 5 (.reg .h) s
/-- `BIT 5,L` (R233). -/
def execBit_5_l (s : State) : Result := bitTestOp 5 (.reg .l) s
/-- `BIT 5,(HL)` (R233). -/
def execBit_5_atHL (s : State) : Result := bitTestOp 5 .atHL s
/-- `BIT 5,A` (R233). -/
def execBit_5_a (s : State) : Result := bitTestOp 5 (.reg .a) s
/-- `BIT 6,B` (R233). -/
def execBit_6_b (s : State) : Result := bitTestOp 6 (.reg .b) s
/-- `BIT 6,C` (R233). -/
def execBit_6_c (s : State) : Result := bitTestOp 6 (.reg .c) s
/-- `BIT 6,D` (R233). -/
def execBit_6_d (s : State) : Result := bitTestOp 6 (.reg .d) s
/-- `BIT 6,E` (R233). -/
def execBit_6_e (s : State) : Result := bitTestOp 6 (.reg .e) s
/-- `BIT 6,H` (R233). -/
def execBit_6_h (s : State) : Result := bitTestOp 6 (.reg .h) s
/-- `BIT 6,L` (R233). -/
def execBit_6_l (s : State) : Result := bitTestOp 6 (.reg .l) s
/-- `BIT 6,(HL)` (R233). -/
def execBit_6_atHL (s : State) : Result := bitTestOp 6 .atHL s
/-- `BIT 6,A` (R233). -/
def execBit_6_a (s : State) : Result := bitTestOp 6 (.reg .a) s
/-- `BIT 7,B` (R233). -/
def execBit_7_b (s : State) : Result := bitTestOp 7 (.reg .b) s
/-- `BIT 7,C` (R233). -/
def execBit_7_c (s : State) : Result := bitTestOp 7 (.reg .c) s
/-- `BIT 7,D` (R233). -/
def execBit_7_d (s : State) : Result := bitTestOp 7 (.reg .d) s
/-- `BIT 7,E` (R233). -/
def execBit_7_e (s : State) : Result := bitTestOp 7 (.reg .e) s
/-- `BIT 7,H` (R233). -/
def execBit_7_h (s : State) : Result := bitTestOp 7 (.reg .h) s
/-- `BIT 7,L` (R233). -/
def execBit_7_l (s : State) : Result := bitTestOp 7 (.reg .l) s
/-- `BIT 7,(HL)` (R233). -/
def execBit_7_atHL (s : State) : Result := bitTestOp 7 .atHL s
/-- `BIT 7,A` (R233). -/
def execBit_7_a (s : State) : Result := bitTestOp 7 (.reg .a) s
/-- `RES 0,B` (R234). -/
def execRes_0_b (s : State) : Result := bitResetOp 0 (.reg .b) s
/-- `RES 0,C` (R234). -/
def execRes_0_c (s : State) : Result := bitResetOp 0 (.reg .c) s
/-- `RES 0,D` (R234). -/
def execRes_0_d (s : State) : Result := bitResetOp 0 (.reg .d) s
/-- `RES 0,E` (R234). -/
def execRes_0_e (s : State) : Result := bitResetOp 0 (.reg .e) s
/-- `RES 0,H` (R234). -/
def execRes_0_h (s : State) : Result := bitResetOp 0 (.reg .h) s
/-- `RES 0,L` (R234). -/
def execRes_0_l (s : State) : Result := bitResetOp 0 (.reg .l) s
/-- `RES 0,(HL)` (R234). -/
def execRes_0_atHL (s : State) : Result := bitResetOp 0 .atHL s
/-- `RES 0,A` (R234). -/
def execRes_0_a (s : State) : Result := bitResetOp 0 (.reg .a) s
/-- `RES 1,B` (R234). -/
def execRes_1_b (s : State) : Result := bitResetOp 1 (.reg .b) s
/-- `RES 1,C` (R234). -/
def execRes_1_c (s : State) : Result := bitResetOp 1 (.reg .c) s
/-- `RES 1,D` (R234). -/
def execRes_1_d (s : State) : Result := bitResetOp 1 (.reg .d) s
/-- `RES 1,E` (R234). -/
def execRes_1_e (s : State) : Result := bitResetOp 1 (.reg .e) s
/-- `RES 1,H` (R234). -/
def execRes_1_h (s : State) : Result := bitResetOp 1 (.reg .h) s
/-- `RES 1,L` (R234). -/
def execRes_1_l (s : State) : Result := bitResetOp 1 (.reg .l) s
/-- `RES 1,(HL)` (R234). -/
def execRes_1_atHL (s : State) : Result := bitResetOp 1 .atHL s
/-- `RES 1,A` (R234). -/
def execRes_1_a (s : State) : Result := bitResetOp 1 (.reg .a) s
/-- `RES 2,B` (R234). -/
def execRes_2_b (s : State) : Result := bitResetOp 2 (.reg .b) s
/-- `RES 2,C` (R234). -/
def execRes_2_c (s : State) : Result := bitResetOp 2 (.reg .c) s
/-- `RES 2,D` (R234). -/
def execRes_2_d (s : State) : Result := bitResetOp 2 (.reg .d) s
/-- `RES 2,E` (R234). -/
def execRes_2_e (s : State) : Result := bitResetOp 2 (.reg .e) s
/-- `RES 2,H` (R234). -/
def execRes_2_h (s : State) : Result := bitResetOp 2 (.reg .h) s
/-- `RES 2,L` (R234). -/
def execRes_2_l (s : State) : Result := bitResetOp 2 (.reg .l) s
/-- `RES 2,(HL)` (R234). -/
def execRes_2_atHL (s : State) : Result := bitResetOp 2 .atHL s
/-- `RES 2,A` (R234). -/
def execRes_2_a (s : State) : Result := bitResetOp 2 (.reg .a) s
/-- `RES 3,B` (R234). -/
def execRes_3_b (s : State) : Result := bitResetOp 3 (.reg .b) s
/-- `RES 3,C` (R234). -/
def execRes_3_c (s : State) : Result := bitResetOp 3 (.reg .c) s
/-- `RES 3,D` (R234). -/
def execRes_3_d (s : State) : Result := bitResetOp 3 (.reg .d) s
/-- `RES 3,E` (R234). -/
def execRes_3_e (s : State) : Result := bitResetOp 3 (.reg .e) s
/-- `RES 3,H` (R234). -/
def execRes_3_h (s : State) : Result := bitResetOp 3 (.reg .h) s
/-- `RES 3,L` (R234). -/
def execRes_3_l (s : State) : Result := bitResetOp 3 (.reg .l) s
/-- `RES 3,(HL)` (R234). -/
def execRes_3_atHL (s : State) : Result := bitResetOp 3 .atHL s
/-- `RES 3,A` (R234). -/
def execRes_3_a (s : State) : Result := bitResetOp 3 (.reg .a) s
/-- `RES 4,B` (R234). -/
def execRes_4_b (s : State) : Result := bitResetOp 4 (.reg .b) s
/-- `RES 4,C` (R234). -/
def execRes_4_c (s : State) : Result := bitResetOp 4 (.reg .c) s
/-- `RES 4,D` (R234). -/
def execRes_4_d (s : State) : Result := bitResetOp 4 (.reg .d) s
/-- `RES 4,E` (R234). -/
def execRes_4_e (s : State) : Result := bitResetOp 4 (.reg .e) s
/-- `RES 4,H` (R234). -/
def execRes_4_h (s : State) : Result := bitResetOp 4 (.reg .h) s
/-- `RES 4,L` (R234). -/
def execRes_4_l (s : State) : Result := bitResetOp 4 (.reg .l) s
/-- `RES 4,(HL)` (R234). -/
def execRes_4_atHL (s : State) : Result := bitResetOp 4 .atHL s
/-- `RES 4,A` (R234). -/
def execRes_4_a (s : State) : Result := bitResetOp 4 (.reg .a) s
/-- `RES 5,B` (R234). -/
def execRes_5_b (s : State) : Result := bitResetOp 5 (.reg .b) s
/-- `RES 5,C` (R234). -/
def execRes_5_c (s : State) : Result := bitResetOp 5 (.reg .c) s
/-- `RES 5,D` (R234). -/
def execRes_5_d (s : State) : Result := bitResetOp 5 (.reg .d) s
/-- `RES 5,E` (R234). -/
def execRes_5_e (s : State) : Result := bitResetOp 5 (.reg .e) s
/-- `RES 5,H` (R234). -/
def execRes_5_h (s : State) : Result := bitResetOp 5 (.reg .h) s
/-- `RES 5,L` (R234). -/
def execRes_5_l (s : State) : Result := bitResetOp 5 (.reg .l) s
/-- `RES 5,(HL)` (R234). -/
def execRes_5_atHL (s : State) : Result := bitResetOp 5 .atHL s
/-- `RES 5,A` (R234). -/
def execRes_5_a (s : State) : Result := bitResetOp 5 (.reg .a) s
/-- `RES 6,B` (R234). -/
def execRes_6_b (s : State) : Result := bitResetOp 6 (.reg .b) s
/-- `RES 6,C` (R234). -/
def execRes_6_c (s : State) : Result := bitResetOp 6 (.reg .c) s
/-- `RES 6,D` (R234). -/
def execRes_6_d (s : State) : Result := bitResetOp 6 (.reg .d) s
/-- `RES 6,E` (R234). -/
def execRes_6_e (s : State) : Result := bitResetOp 6 (.reg .e) s
/-- `RES 6,H` (R234). -/
def execRes_6_h (s : State) : Result := bitResetOp 6 (.reg .h) s
/-- `RES 6,L` (R234). -/
def execRes_6_l (s : State) : Result := bitResetOp 6 (.reg .l) s
/-- `RES 6,(HL)` (R234). -/
def execRes_6_atHL (s : State) : Result := bitResetOp 6 .atHL s
/-- `RES 6,A` (R234). -/
def execRes_6_a (s : State) : Result := bitResetOp 6 (.reg .a) s
/-- `RES 7,B` (R234). -/
def execRes_7_b (s : State) : Result := bitResetOp 7 (.reg .b) s
/-- `RES 7,C` (R234). -/
def execRes_7_c (s : State) : Result := bitResetOp 7 (.reg .c) s
/-- `RES 7,D` (R234). -/
def execRes_7_d (s : State) : Result := bitResetOp 7 (.reg .d) s
/-- `RES 7,E` (R234). -/
def execRes_7_e (s : State) : Result := bitResetOp 7 (.reg .e) s
/-- `RES 7,H` (R234). -/
def execRes_7_h (s : State) : Result := bitResetOp 7 (.reg .h) s
/-- `RES 7,L` (R234). -/
def execRes_7_l (s : State) : Result := bitResetOp 7 (.reg .l) s
/-- `RES 7,(HL)` (R234). -/
def execRes_7_atHL (s : State) : Result := bitResetOp 7 .atHL s
/-- `RES 7,A` (R234). -/
def execRes_7_a (s : State) : Result := bitResetOp 7 (.reg .a) s
/-- `SET 0,B` (R235). -/
def execSet_0_b (s : State) : Result := bitSetOp 0 (.reg .b) s
/-- `SET 0,C` (R235). -/
def execSet_0_c (s : State) : Result := bitSetOp 0 (.reg .c) s
/-- `SET 0,D` (R235). -/
def execSet_0_d (s : State) : Result := bitSetOp 0 (.reg .d) s
/-- `SET 0,E` (R235). -/
def execSet_0_e (s : State) : Result := bitSetOp 0 (.reg .e) s
/-- `SET 0,H` (R235). -/
def execSet_0_h (s : State) : Result := bitSetOp 0 (.reg .h) s
/-- `SET 0,L` (R235). -/
def execSet_0_l (s : State) : Result := bitSetOp 0 (.reg .l) s
/-- `SET 0,(HL)` (R235). -/
def execSet_0_atHL (s : State) : Result := bitSetOp 0 .atHL s
/-- `SET 0,A` (R235). -/
def execSet_0_a (s : State) : Result := bitSetOp 0 (.reg .a) s
/-- `SET 1,B` (R235). -/
def execSet_1_b (s : State) : Result := bitSetOp 1 (.reg .b) s
/-- `SET 1,C` (R235). -/
def execSet_1_c (s : State) : Result := bitSetOp 1 (.reg .c) s
/-- `SET 1,D` (R235). -/
def execSet_1_d (s : State) : Result := bitSetOp 1 (.reg .d) s
/-- `SET 1,E` (R235). -/
def execSet_1_e (s : State) : Result := bitSetOp 1 (.reg .e) s
/-- `SET 1,H` (R235). -/
def execSet_1_h (s : State) : Result := bitSetOp 1 (.reg .h) s
/-- `SET 1,L` (R235). -/
def execSet_1_l (s : State) : Result := bitSetOp 1 (.reg .l) s
/-- `SET 1,(HL)` (R235). -/
def execSet_1_atHL (s : State) : Result := bitSetOp 1 .atHL s
/-- `SET 1,A` (R235). -/
def execSet_1_a (s : State) : Result := bitSetOp 1 (.reg .a) s
/-- `SET 2,B` (R235). -/
def execSet_2_b (s : State) : Result := bitSetOp 2 (.reg .b) s
/-- `SET 2,C` (R235). -/
def execSet_2_c (s : State) : Result := bitSetOp 2 (.reg .c) s
/-- `SET 2,D` (R235). -/
def execSet_2_d (s : State) : Result := bitSetOp 2 (.reg .d) s
/-- `SET 2,E` (R235). -/
def execSet_2_e (s : State) : Result := bitSetOp 2 (.reg .e) s
/-- `SET 2,H` (R235). -/
def execSet_2_h (s : State) : Result := bitSetOp 2 (.reg .h) s
/-- `SET 2,L` (R235). -/
def execSet_2_l (s : State) : Result := bitSetOp 2 (.reg .l) s
/-- `SET 2,(HL)` (R235). -/
def execSet_2_atHL (s : State) : Result := bitSetOp 2 .atHL s
/-- `SET 2,A` (R235). -/
def execSet_2_a (s : State) : Result := bitSetOp 2 (.reg .a) s
/-- `SET 3,B` (R235). -/
def execSet_3_b (s : State) : Result := bitSetOp 3 (.reg .b) s
/-- `SET 3,C` (R235). -/
def execSet_3_c (s : State) : Result := bitSetOp 3 (.reg .c) s
/-- `SET 3,D` (R235). -/
def execSet_3_d (s : State) : Result := bitSetOp 3 (.reg .d) s
/-- `SET 3,E` (R235). -/
def execSet_3_e (s : State) : Result := bitSetOp 3 (.reg .e) s
/-- `SET 3,H` (R235). -/
def execSet_3_h (s : State) : Result := bitSetOp 3 (.reg .h) s
/-- `SET 3,L` (R235). -/
def execSet_3_l (s : State) : Result := bitSetOp 3 (.reg .l) s
/-- `SET 3,(HL)` (R235). -/
def execSet_3_atHL (s : State) : Result := bitSetOp 3 .atHL s
/-- `SET 3,A` (R235). -/
def execSet_3_a (s : State) : Result := bitSetOp 3 (.reg .a) s
/-- `SET 4,B` (R235). -/
def execSet_4_b (s : State) : Result := bitSetOp 4 (.reg .b) s
/-- `SET 4,C` (R235). -/
def execSet_4_c (s : State) : Result := bitSetOp 4 (.reg .c) s
/-- `SET 4,D` (R235). -/
def execSet_4_d (s : State) : Result := bitSetOp 4 (.reg .d) s
/-- `SET 4,E` (R235). -/
def execSet_4_e (s : State) : Result := bitSetOp 4 (.reg .e) s
/-- `SET 4,H` (R235). -/
def execSet_4_h (s : State) : Result := bitSetOp 4 (.reg .h) s
/-- `SET 4,L` (R235). -/
def execSet_4_l (s : State) : Result := bitSetOp 4 (.reg .l) s
/-- `SET 4,(HL)` (R235). -/
def execSet_4_atHL (s : State) : Result := bitSetOp 4 .atHL s
/-- `SET 4,A` (R235). -/
def execSet_4_a (s : State) : Result := bitSetOp 4 (.reg .a) s
/-- `SET 5,B` (R235). -/
def execSet_5_b (s : State) : Result := bitSetOp 5 (.reg .b) s
/-- `SET 5,C` (R235). -/
def execSet_5_c (s : State) : Result := bitSetOp 5 (.reg .c) s
/-- `SET 5,D` (R235). -/
def execSet_5_d (s : State) : Result := bitSetOp 5 (.reg .d) s
/-- `SET 5,E` (R235). -/
def execSet_5_e (s : State) : Result := bitSetOp 5 (.reg .e) s
/-- `SET 5,H` (R235). -/
def execSet_5_h (s : State) : Result := bitSetOp 5 (.reg .h) s
/-- `SET 5,L` (R235). -/
def execSet_5_l (s : State) : Result := bitSetOp 5 (.reg .l) s
/-- `SET 5,(HL)` (R235). -/
def execSet_5_atHL (s : State) : Result := bitSetOp 5 .atHL s
/-- `SET 5,A` (R235). -/
def execSet_5_a (s : State) : Result := bitSetOp 5 (.reg .a) s
/-- `SET 6,B` (R235). -/
def execSet_6_b (s : State) : Result := bitSetOp 6 (.reg .b) s
/-- `SET 6,C` (R235). -/
def execSet_6_c (s : State) : Result := bitSetOp 6 (.reg .c) s
/-- `SET 6,D` (R235). -/
def execSet_6_d (s : State) : Result := bitSetOp 6 (.reg .d) s
/-- `SET 6,E` (R235). -/
def execSet_6_e (s : State) : Result := bitSetOp 6 (.reg .e) s
/-- `SET 6,H` (R235). -/
def execSet_6_h (s : State) : Result := bitSetOp 6 (.reg .h) s
/-- `SET 6,L` (R235). -/
def execSet_6_l (s : State) : Result := bitSetOp 6 (.reg .l) s
/-- `SET 6,(HL)` (R235). -/
def execSet_6_atHL (s : State) : Result := bitSetOp 6 .atHL s
/-- `SET 6,A` (R235). -/
def execSet_6_a (s : State) : Result := bitSetOp 6 (.reg .a) s
/-- `SET 7,B` (R235). -/
def execSet_7_b (s : State) : Result := bitSetOp 7 (.reg .b) s
/-- `SET 7,C` (R235). -/
def execSet_7_c (s : State) : Result := bitSetOp 7 (.reg .c) s
/-- `SET 7,D` (R235). -/
def execSet_7_d (s : State) : Result := bitSetOp 7 (.reg .d) s
/-- `SET 7,E` (R235). -/
def execSet_7_e (s : State) : Result := bitSetOp 7 (.reg .e) s
/-- `SET 7,H` (R235). -/
def execSet_7_h (s : State) : Result := bitSetOp 7 (.reg .h) s
/-- `SET 7,L` (R235). -/
def execSet_7_l (s : State) : Result := bitSetOp 7 (.reg .l) s
/-- `SET 7,(HL)` (R235). -/
def execSet_7_atHL (s : State) : Result := bitSetOp 7 .atHL s
/-- `SET 7,A` (R235). -/
def execSet_7_a (s : State) : Result := bitSetOp 7 (.reg .a) s

end Sys2Proof.Machine
end

