-- ==== Sys2Proof/Machine/System.lean ====
section
/-! DEFINITION. The system instructions: NOP, HALT, STOP, DI, EI, the byte 0xCB and the unmapped opcodes (46_system.md, R270 to R277). -/

namespace Sys2Proof.Machine

/-- `NOP` (R270). -/
def noOperation (s : State) : Result := .next (s.advance 1 (s.count .nop true))

/-- `HALT` (R271): pc passes the instruction's own byte. -/
def haltEngine (s : State) : Result := .next (({ s with halted := true }).advance 1 (s.count .halt true))

/-- `STOP` (R272): two bytes whatever the second one is; it is never examined, so STOP has one count. -/
def stopEngine (_pad : Byte) (s : State) : Result := .next (({ s with stopped := true }).advance 2 (s.count (.stop 0) true))

/-- `DI` (R273): also cancels an enable that EI has scheduled. -/
def disableInterrupts (s : State) : Result :=
  .next (({ s with ime := false, imeScheduled := false }).advance 1 (s.count .di true))

/-- `EI` (R274): `ime` itself is not written. -/
def enableInterrupts (s : State) : Result :=
  .next (({ s with imeScheduled := true }).advance 1 (s.count .ei true))

/-- An unmapped opcode (R276, R344): `Fatal(IllegalOpcode, {pc, opcode})`, and nothing else changes. -/
def illegalOpcode (op : Byte) (s : State) : Result := .next (s.raise (.illegalOpcode s.pc op))

/-! ## One meaning for each instruction of the family -/

/-- `NOP` (R270). -/
def execNop (s : State) : Result := noOperation s
/-- `STOP` (R272). -/
def execStop (pad : Byte) (s : State) : Result := stopEngine pad s
/-- `HALT` (R271). -/
def execHalt (s : State) : Result := haltEngine s
/-- The byte 0xCB (R275). -/
def execCbPrefix (op2 : Byte) (s : State) : Result := cbExecute op2 s
/-- An unmapped opcode (R276). -/
def execIllegal (op : Byte) (s : State) : Result := illegalOpcode op s
/-- `DI` (R273). -/
def execDi (s : State) : Result := disableInterrupts s
/-- `EI` (R274). -/
def execEi (s : State) : Result := enableInterrupts s

end Sys2Proof.Machine
end

