-- ==== Sys2Proof/WellFormed.lean ====
section
/-! DEFINITION. Which terms of the syntax are instructions as the encoding gives them. -/

namespace Sys2Proof

/-- The eleven unmapped primary opcodes (R112). -/
def unmappedOpcodes : List Byte :=
  [0xD3, 0xDB, 0xDD, 0xE3, 0xE4, 0xEB, 0xEC, 0xED, 0xF4, 0xFC, 0xFD]

/-- `illegal` names one of the eleven unmapped bytes (R112); the byte 0xCB "read as a primary opcode is not itself an
instruction" (R110), it is read with the byte after it as one instruction of the secondary table. Every other term is an
instruction: its immediates fill their bytes and any value of them is legal (R103, R113). -/
def Instr.wf : Instr → Bool
  | .illegal op => unmappedOpcodes.contains op
  | .cbPrefix _ => false
  | _ => true

end Sys2Proof
end

