-- ==== Sys2Proof/Decode.lean ====
section
/-! DEFINITION. The decoder: the two opcode tables (R108 to R112), the length rule (R100, R101, R111), decoding of any bytes; and after it the encoder, written from the fields of R102 to R110 and from the encodings of the instruction rules. -/

namespace Sys2Proof

open Sys2Proof.Machine

/-- An entry of the primary table: the instruction, given byte 1 and byte 2 (R101). Formats that have no such byte ignore it. -/
abbrev Entry := Byte → Byte → Instr

/-- Format `OP`: no immediate. -/
def implied (i : Instr) : Entry := fun _ _ => i

/-- Formats `OP_N8`, `OP_E8` and `CB_OP`: byte 1. -/
def withN8 (f : Byte → Instr) : Entry := fun b1 _ => f b1

/-- Format `OP_N16`: `n16 = {byte 2, byte 1}` (R103). -/
def withN16 (f : Word → Instr) : Entry := fun b1 b2 => f (joinBytes b2 b1)

/-- Row 0x of the primary table (R109). -/
def primaryRow0 : List Entry :=
  [implied .nop, withN16 .ld_bc_nn, implied .ld_atBC_a, implied .inc_bc,
   implied .inc_b, implied .dec_b, withN8 .ld_b_n, implied .rlca,
   withN16 .ld_atNN_sp, implied .add_hl_bc, implied .ld_a_atBC, implied .dec_bc,
   implied .inc_c, implied .dec_c, withN8 .ld_c_n, implied .rrca]

/-- Row 1x of the primary table (R109). -/
def primaryRow1 : List Entry :=
  [withN8 .stop, withN16 .ld_de_nn, implied .ld_atDE_a, implied .inc_de,
   implied .inc_d, implied .dec_d, withN8 .ld_d_n, implied .rla,
   withN8 .jr_e, implied .add_hl_de, implied .ld_a_atDE, implied .dec_de,
   implied .inc_e, implied .dec_e, withN8 .ld_e_n, implied .rra]

/-- Row 2x of the primary table (R109). -/
def primaryRow2 : List Entry :=
  [withN8 .jr_nz_e, withN16 .ld_hl_nn, implied .ld_atHLinc_a, implied .inc_hl,
   implied .inc_h, implied .dec_h, withN8 .ld_h_n, implied .daa,
   withN8 .jr_z_e, implied .add_hl_hl, implied .ld_a_atHLinc, implied .dec_hl,
   implied .inc_l, implied .dec_l, withN8 .ld_l_n, implied .cpl]

/-- Row 3x of the primary table (R109). -/
def primaryRow3 : List Entry :=
  [withN8 .jr_nc_e, withN16 .ld_sp_nn, implied .ld_atHLdec_a, implied .inc_sp,
   implied .inc_atHL, implied .dec_atHL, withN8 .ld_atHL_n, implied .scf,
   withN8 .jr_c_e, implied .add_hl_sp, implied .ld_a_atHLdec, implied .dec_sp,
   implied .inc_a, implied .dec_a, withN8 .ld_a_n, implied .ccf]

/-- Row 4x of the primary table (R109). -/
def primaryRow4 : List Entry :=
  [implied .ld_b_b, implied .ld_b_c, implied .ld_b_d, implied .ld_b_e,
   implied .ld_b_h, implied .ld_b_l, implied .ld_b_atHL, implied .ld_b_a,
   implied .ld_c_b, implied .ld_c_c, implied .ld_c_d, implied .ld_c_e,
   implied .ld_c_h, implied .ld_c_l, implied .ld_c_atHL, implied .ld_c_a]

/-- Row 5x of the primary table (R109). -/
def primaryRow5 : List Entry :=
  [implied .ld_d_b, implied .ld_d_c, implied .ld_d_d, implied .ld_d_e,
   implied .ld_d_h, implied .ld_d_l, implied .ld_d_atHL, implied .ld_d_a,
   implied .ld_e_b, implied .ld_e_c, implied .ld_e_d, implied .ld_e_e,
   implied .ld_e_h, implied .ld_e_l, implied .ld_e_atHL, implied .ld_e_a]

/-- Row 6x of the primary table (R109). -/
def primaryRow6 : List Entry :=
  [implied .ld_h_b, implied .ld_h_c, implied .ld_h_d, implied .ld_h_e,
   implied .ld_h_h, implied .ld_h_l, implied .ld_h_atHL, implied .ld_h_a,
   implied .ld_l_b, implied .ld_l_c, implied .ld_l_d, implied .ld_l_e,
   implied .ld_l_h, implied .ld_l_l, implied .ld_l_atHL, implied .ld_l_a]

/-- Row 7x of the primary table (R109). -/
def primaryRow7 : List Entry :=
  [implied .ld_atHL_b, implied .ld_atHL_c, implied .ld_atHL_d, implied .ld_atHL_e,
   implied .ld_atHL_h, implied .ld_atHL_l, implied .halt, implied .ld_atHL_a,
   implied .ld_a_b, implied .ld_a_c, implied .ld_a_d, implied .ld_a_e,
   implied .ld_a_h, implied .ld_a_l, implied .ld_a_atHL, implied .ld_a_a]

/-- Row 8x of the primary table (R109). -/
def primaryRow8 : List Entry :=
  [implied .add_a_b, implied .add_a_c, implied .add_a_d, implied .add_a_e,
   implied .add_a_h, implied .add_a_l, implied .add_a_atHL, implied .add_a_a,
   implied .adc_a_b, implied .adc_a_c, implied .adc_a_d, implied .adc_a_e,
   implied .adc_a_h, implied .adc_a_l, implied .adc_a_atHL, implied .adc_a_a]

/-- Row 9x of the primary table (R109). -/
def primaryRow9 : List Entry :=
  [implied .sub_b, implied .sub_c, implied .sub_d, implied .sub_e,
   implied .sub_h, implied .sub_l, implied .sub_atHL, implied .sub_a,
   implied .sbc_a_b, implied .sbc_a_c, implied .sbc_a_d, implied .sbc_a_e,
   implied .sbc_a_h, implied .sbc_a_l, implied .sbc_a_atHL, implied .sbc_a_a]

/-- Row Ax of the primary table (R109). -/
def primaryRowA : List Entry :=
  [implied .and_b, implied .and_c, implied .and_d, implied .and_e,
   implied .and_h, implied .and_l, implied .and_atHL, implied .and_a,
   implied .xor_b, implied .xor_c, implied .xor_d, implied .xor_e,
   implied .xor_h, implied .xor_l, implied .xor_atHL, implied .xor_a]

/-- Row Bx of the primary table (R109). -/
def primaryRowB : List Entry :=
  [implied .or_b, implied .or_c, implied .or_d, implied .or_e,
   implied .or_h, implied .or_l, implied .or_atHL, implied .or_a,
   implied .cp_b, implied .cp_c, implied .cp_d, implied .cp_e,
   implied .cp_h, implied .cp_l, implied .cp_atHL, implied .cp_a]

/-- Row Cx of the primary table (R109). -/
def primaryRowC : List Entry :=
  [implied .ret_nz, implied .pop_bc, withN16 .jp_nz_nn, withN16 .jp_nn,
   withN16 .call_nz_nn, implied .push_bc, withN8 .add_a_n, implied .rst_00,
   implied .ret_z, implied .ret, withN16 .jp_z_nn, withN8 .cbPrefix,
   withN16 .call_z_nn, withN16 .call_nn, withN8 .adc_a_n, implied .rst_08]

/-- Row Dx of the primary table (R109). -/
def primaryRowD : List Entry :=
  [implied .ret_nc, implied .pop_de, withN16 .jp_nc_nn, implied (.illegal 0xD3),
   withN16 .call_nc_nn, implied .push_de, withN8 .sub_n, implied .rst_10,
   implied .ret_c, implied .reti, withN16 .jp_c_nn, implied (.illegal 0xDB),
   withN16 .call_c_nn, implied (.illegal 0xDD), withN8 .sbc_a_n, implied .rst_18]

/-- Row Ex of the primary table (R109). -/
def primaryRowE : List Entry :=
  [withN8 .ldh_atN_a, implied .pop_hl, implied .ld_atC_a, implied (.illegal 0xE3),
   implied (.illegal 0xE4), implied .push_hl, withN8 .and_n, implied .rst_20,
   withN8 .add_sp_e, implied .jp_hl, withN16 .ld_atNN_a, implied (.illegal 0xEB),
   implied (.illegal 0xEC), implied (.illegal 0xED), withN8 .xor_n, implied .rst_28]

/-- Row Fx of the primary table (R109). -/
def primaryRowF : List Entry :=
  [withN8 .ldh_a_atN, implied .pop_af, implied .ld_a_atC, implied .di,
   implied (.illegal 0xF4), implied .push_af, withN8 .or_n, implied .rst_30,
   withN8 .ld_hl_spE, implied .ld_sp_hl, withN16 .ld_a_atNN, implied .ei,
   implied (.illegal 0xFC), implied (.illegal 0xFD), withN8 .cp_n, implied .rst_38]

/-- The primary table (R109): "two fixed 256-entry tables" (R31). -/
def primaryTable : List Entry :=
  primaryRow0 ++ primaryRow1 ++ primaryRow2 ++ primaryRow3 ++ primaryRow4 ++ primaryRow5 ++ primaryRow6 ++ primaryRow7 ++
  primaryRow8 ++ primaryRow9 ++ primaryRowA ++ primaryRowB ++ primaryRowC ++ primaryRowD ++ primaryRowE ++ primaryRowF

/-- Row 0x of the secondary table (R110). -/
def secondaryRow0 : List Instr :=
  [.rlc_b, .rlc_c, .rlc_d, .rlc_e, .rlc_h, .rlc_l, .rlc_atHL, .rlc_a,
   .rrc_b, .rrc_c, .rrc_d, .rrc_e, .rrc_h, .rrc_l, .rrc_atHL, .rrc_a]

/-- Row 1x of the secondary table (R110). -/
def secondaryRow1 : List Instr :=
  [.rl_b, .rl_c, .rl_d, .rl_e, .rl_h, .rl_l, .rl_atHL, .rl_a,
   .rr_b, .rr_c, .rr_d, .rr_e, .rr_h, .rr_l, .rr_atHL, .rr_a]

/-- Row 2x of the secondary table (R110). -/
def secondaryRow2 : List Instr :=
  [.sla_b, .sla_c, .sla_d, .sla_e, .sla_h, .sla_l, .sla_atHL, .sla_a,
   .sra_b, .sra_c, .sra_d, .sra_e, .sra_h, .sra_l, .sra_atHL, .sra_a]

/-- Row 3x of the secondary table (R110). -/
def secondaryRow3 : List Instr :=
  [.swap_b, .swap_c, .swap_d, .swap_e, .swap_h, .swap_l, .swap_atHL, .swap_a,
   .srl_b, .srl_c, .srl_d, .srl_e, .srl_h, .srl_l, .srl_atHL, .srl_a]

/-- Row 4x of the secondary table (R110). -/
def secondaryRow4 : List Instr :=
  [.bit_0_b, .bit_0_c, .bit_0_d, .bit_0_e, .bit_0_h, .bit_0_l, .bit_0_atHL, .bit_0_a,
   .bit_1_b, .bit_1_c, .bit_1_d, .bit_1_e, .bit_1_h, .bit_1_l, .bit_1_atHL, .bit_1_a]

/-- Row 5x of the secondary table (R110). -/
def secondaryRow5 : List Instr :=
  [.bit_2_b, .bit_2_c, .bit_2_d, .bit_2_e, .bit_2_h, .bit_2_l, .bit_2_atHL, .bit_2_a,
   .bit_3_b, .bit_3_c, .bit_3_d, .bit_3_e, .bit_3_h, .bit_3_l, .bit_3_atHL, .bit_3_a]

/-- Row 6x of the secondary table (R110). -/
def secondaryRow6 : List Instr :=
  [.bit_4_b, .bit_4_c, .bit_4_d, .bit_4_e, .bit_4_h, .bit_4_l, .bit_4_atHL, .bit_4_a,
   .bit_5_b, .bit_5_c, .bit_5_d, .bit_5_e, .bit_5_h, .bit_5_l, .bit_5_atHL, .bit_5_a]

/-- Row 7x of the secondary table (R110). -/
def secondaryRow7 : List Instr :=
  [.bit_6_b, .bit_6_c, .bit_6_d, .bit_6_e, .bit_6_h, .bit_6_l, .bit_6_atHL, .bit_6_a,
   .bit_7_b, .bit_7_c, .bit_7_d, .bit_7_e, .bit_7_h, .bit_7_l, .bit_7_atHL, .bit_7_a]

/-- Row 8x of the secondary table (R110). -/
def secondaryRow8 : List Instr :=
  [.res_0_b, .res_0_c, .res_0_d, .res_0_e, .res_0_h, .res_0_l, .res_0_atHL, .res_0_a,
   .res_1_b, .res_1_c, .res_1_d, .res_1_e, .res_1_h, .res_1_l, .res_1_atHL, .res_1_a]

/-- Row 9x of the secondary table (R110). -/
def secondaryRow9 : List Instr :=
  [.res_2_b, .res_2_c, .res_2_d, .res_2_e, .res_2_h, .res_2_l, .res_2_atHL, .res_2_a,
   .res_3_b, .res_3_c, .res_3_d, .res_3_e, .res_3_h, .res_3_l, .res_3_atHL, .res_3_a]

/-- Row Ax of the secondary table (R110). -/
def secondaryRowA : List Instr :=
  [.res_4_b, .res_4_c, .res_4_d, .res_4_e, .res_4_h, .res_4_l, .res_4_atHL, .res_4_a,
   .res_5_b, .res_5_c, .res_5_d, .res_5_e, .res_5_h, .res_5_l, .res_5_atHL, .res_5_a]

/-- Row Bx of the secondary table (R110). -/
def secondaryRowB : List Instr :=
  [.res_6_b, .res_6_c, .res_6_d, .res_6_e, .res_6_h, .res_6_l, .res_6_atHL, .res_6_a,
   .res_7_b, .res_7_c, .res_7_d, .res_7_e, .res_7_h, .res_7_l, .res_7_atHL, .res_7_a]

/-- Row Cx of the secondary table (R110). -/
def secondaryRowC : List Instr :=
  [.set_0_b, .set_0_c, .set_0_d, .set_0_e, .set_0_h, .set_0_l, .set_0_atHL, .set_0_a,
   .set_1_b, .set_1_c, .set_1_d, .set_1_e, .set_1_h, .set_1_l, .set_1_atHL, .set_1_a]

/-- Row Dx of the secondary table (R110). -/
def secondaryRowD : List Instr :=
  [.set_2_b, .set_2_c, .set_2_d, .set_2_e, .set_2_h, .set_2_l, .set_2_atHL, .set_2_a,
   .set_3_b, .set_3_c, .set_3_d, .set_3_e, .set_3_h, .set_3_l, .set_3_atHL, .set_3_a]

/-- Row Ex of the secondary table (R110). -/
def secondaryRowE : List Instr :=
  [.set_4_b, .set_4_c, .set_4_d, .set_4_e, .set_4_h, .set_4_l, .set_4_atHL, .set_4_a,
   .set_5_b, .set_5_c, .set_5_d, .set_5_e, .set_5_h, .set_5_l, .set_5_atHL, .set_5_a]

/-- Row Fx of the secondary table (R110). -/
def secondaryRowF : List Instr :=
  [.set_6_b, .set_6_c, .set_6_d, .set_6_e, .set_6_h, .set_6_l, .set_6_atHL, .set_6_a,
   .set_7_b, .set_7_c, .set_7_d, .set_7_e, .set_7_h, .set_7_l, .set_7_atHL, .set_7_a]

/-- The secondary table (R110). -/
def secondaryTable : List Instr :=
  secondaryRow0 ++ secondaryRow1 ++ secondaryRow2 ++ secondaryRow3 ++ secondaryRow4 ++ secondaryRow5 ++ secondaryRow6 ++ secondaryRow7 ++
  secondaryRow8 ++ secondaryRow9 ++ secondaryRowA ++ secondaryRowB ++ secondaryRowC ++ secondaryRowD ++ secondaryRowE ++ secondaryRowF

/-- The primary opcodes of format `OP_N16` (R101, R108). -/
def n16Opcodes : List Byte :=
  [0x01, 0x08, 0x11, 0x21, 0x31, 0xC2, 0xC3, 0xC4, 0xCA, 0xCC, 0xCD, 0xD2, 0xD4, 0xDA, 0xDC, 0xEA, 0xFA]

/-- The primary opcodes of formats `OP_N8` and `OP_E8`, and the byte 0xCB (R101, R108). -/
def n8Opcodes : List Byte :=
  [0x06, 0x0E, 0x10, 0x16, 0x18, 0x1E, 0x20, 0x26, 0x28, 0x2E, 0x30, 0x36, 0x38, 0x3E, 0xC6, 0xCB, 0xCE, 0xD6, 0xDE,
   0xE0, 0xE6, 0xE8, 0xEE, 0xF0, 0xF6, 0xF8, 0xFE]

/-- The length of an instruction, told from the primary opcode alone (R100, R111). -/
def instrLength (op : Byte) : Nat :=
  if n16Opcodes.contains op then 3 else if n8Opcodes.contains op then 2 else 1

/-- The primary table's entry for an opcode: total, since the table has 256 entries (R111). -/
def primaryEntry (op : Byte) : Entry := primaryTable.getD op.toNat (implied (.illegal op))

/-- The secondary table's entry for an opcode: total, since the table has 256 entries (R110). -/
def secondaryEntry (op2 : Byte) : Instr := secondaryTable.getD op2.toNat (.cbPrefix op2)

/-- The instruction of three bytes: the primary table's entry, or, for 0xCB, the secondary table's entry for byte 1
(R110, R114). Total: an unmapped opcode is rejected by name, as `illegal` (R112). -/
def decodeInstr (b0 b1 b2 : Byte) : Instr :=
  match primaryEntry b0 b1 b2 with
  | .cbPrefix op2 => secondaryEntry op2
  | i => i

/-- Why bytes give no instruction. -/
inductive DecodeError where
  /-- The bytes end before the instruction does. -/
  | truncated
deriving DecidableEq, Repr

/-- Decodes the instruction at the front of a byte list and answers what follows it. -/
def decode : List Byte → Except DecodeError (Instr × List Byte)
  | [] => .error .truncated
  | b0 :: rest =>
    match instrLength b0, rest with
    | 1, rest => .ok (decodeInstr b0 0 0, rest)
    | 2, b1 :: rest => .ok (decodeInstr b0 b1 0, rest)
    | 3, b1 :: b2 :: rest => .ok (decodeInstr b0 b1 b2, rest)
    | _, _ => .error .truncated

/-- The three bytes an opcode-table word stands for, the bits above `nbits` zero. The table numbers its two-byte rows
`{byte 0, byte 1}` (R117), so there the byte 0xCB is bits 15..8; any other word has its first byte in bits 7..0. -/
def tableBytes (nbits w : Nat) : Byte × Byte × Byte :=
  let v := w % 2 ^ nbits
  if nbits = 16 ∧ v / 256 = 0xCB then (0xCB, BitVec.ofNat 8 v, 0)
  else (BitVec.ofNat 8 v, BitVec.ofNat 8 (v / 256), BitVec.ofNat 8 (v / 65536))

/-- The instruction the decoder reads from an opcode-table word. -/
def decodeTableWord (nbits w : Nat) : Option Instr :=
  let b := tableBytes nbits w
  match decode [b.1, b.2.1, b.2.2] with
  | .ok (i, _) => some i
  | .error _ => none

/-! ## The encoder -/

/-- The kind of an instruction and its operands (R30, R115): the row's own fields. -/
def Instr.kind : Instr → Kind
  | .nop => .nop
  | .ld_bc_nn nn => .ldPairImm .bc nn
  | .ld_atBC_a => .ldPairA .bc
  | .inc_bc => .incPair .bc
  | .inc_b => .inc8 (.reg .b)
  | .dec_b => .dec8 (.reg .b)
  | .ld_b_n n => .ldRegImm .b n
  | .rlca => .accRotate .rlca
  | .ld_atNN_sp nn => .ldAbsSP nn
  | .add_hl_bc => .addHL .bc
  | .ld_a_atBC => .ldAPair .bc
  | .dec_bc => .decPair .bc
  | .inc_c => .inc8 (.reg .c)
  | .dec_c => .dec8 (.reg .c)
  | .ld_c_n n => .ldRegImm .c n
  | .rrca => .accRotate .rrca
  | .stop pad => .stop pad
  | .ld_de_nn nn => .ldPairImm .de nn
  | .ld_atDE_a => .ldPairA .de
  | .inc_de => .incPair .de
  | .inc_d => .inc8 (.reg .d)
  | .dec_d => .dec8 (.reg .d)
  | .ld_d_n n => .ldRegImm .d n
  | .rla => .accRotate .rla
  | .jr_e e => .jr e
  | .add_hl_de => .addHL .de
  | .ld_a_atDE => .ldAPair .de
  | .dec_de => .decPair .de
  | .inc_e => .inc8 (.reg .e)
  | .dec_e => .dec8 (.reg .e)
  | .ld_e_n n => .ldRegImm .e n
  | .rra => .accRotate .rra
  | .jr_nz_e e => .jrCond .nz e
  | .ld_hl_nn nn => .ldPairImm .hl nn
  | .ld_atHLinc_a => .ldHLPostA .inc
  | .inc_hl => .incPair .hl
  | .inc_h => .inc8 (.reg .h)
  | .dec_h => .dec8 (.reg .h)
  | .ld_h_n n => .ldRegImm .h n
  | .daa => .daa
  | .jr_z_e e => .jrCond .z e
  | .add_hl_hl => .addHL .hl
  | .ld_a_atHLinc => .ldAHLPost .inc
  | .dec_hl => .decPair .hl
  | .inc_l => .inc8 (.reg .l)
  | .dec_l => .dec8 (.reg .l)
  | .ld_l_n n => .ldRegImm .l n
  | .cpl => .cpl
  | .jr_nc_e e => .jrCond .nc e
  | .ld_sp_nn nn => .ldPairImm .sp nn
  | .ld_atHLdec_a => .ldHLPostA .dec
  | .inc_sp => .incPair .sp
  | .inc_atHL => .inc8 .atHL
  | .dec_atHL => .dec8 .atHL
  | .ld_atHL_n n => .ldHLImm n
  | .scf => .scf
  | .jr_c_e e => .jrCond .c e
  | .add_hl_sp => .addHL .sp
  | .ld_a_atHLdec => .ldAHLPost .dec
  | .dec_sp => .decPair .sp
  | .inc_a => .inc8 (.reg .a)
  | .dec_a => .dec8 (.reg .a)
  | .ld_a_n n => .ldRegImm .a n
  | .ccf => .ccf
  | .ld_b_b => .ldRegReg .b .b
  | .ld_b_c => .ldRegReg .b .c
  | .ld_b_d => .ldRegReg .b .d
  | .ld_b_e => .ldRegReg .b .e
  | .ld_b_h => .ldRegReg .b .h
  | .ld_b_l => .ldRegReg .b .l
  | .ld_b_atHL => .ldRegHL .b
  | .ld_b_a => .ldRegReg .b .a
  | .ld_c_b => .ldRegReg .c .b
  | .ld_c_c => .ldRegReg .c .c
  | .ld_c_d => .ldRegReg .c .d
  | .ld_c_e => .ldRegReg .c .e
  | .ld_c_h => .ldRegReg .c .h
  | .ld_c_l => .ldRegReg .c .l
  | .ld_c_atHL => .ldRegHL .c
  | .ld_c_a => .ldRegReg .c .a
  | .ld_d_b => .ldRegReg .d .b
  | .ld_d_c => .ldRegReg .d .c
  | .ld_d_d => .ldRegReg .d .d
  | .ld_d_e => .ldRegReg .d .e
  | .ld_d_h => .ldRegReg .d .h
  | .ld_d_l => .ldRegReg .d .l
  | .ld_d_atHL => .ldRegHL .d
  | .ld_d_a => .ldRegReg .d .a
  | .ld_e_b => .ldRegReg .e .b
  | .ld_e_c => .ldRegReg .e .c
  | .ld_e_d => .ldRegReg .e .d
  | .ld_e_e => .ldRegReg .e .e
  | .ld_e_h => .ldRegReg .e .h
  | .ld_e_l => .ldRegReg .e .l
  | .ld_e_atHL => .ldRegHL .e
  | .ld_e_a => .ldRegReg .e .a
  | .ld_h_b => .ldRegReg .h .b
  | .ld_h_c => .ldRegReg .h .c
  | .ld_h_d => .ldRegReg .h .d
  | .ld_h_e => .ldRegReg .h .e
  | .ld_h_h => .ldRegReg .h .h
  | .ld_h_l => .ldRegReg .h .l
  | .ld_h_atHL => .ldRegHL .h
  | .ld_h_a => .ldRegReg .h .a
  | .ld_l_b => .ldRegReg .l .b
  | .ld_l_c => .ldRegReg .l .c
  | .ld_l_d => .ldRegReg .l .d
  | .ld_l_e => .ldRegReg .l .e
  | .ld_l_h => .ldRegReg .l .h
  | .ld_l_l => .ldRegReg .l .l
  | .ld_l_atHL => .ldRegHL .l
  | .ld_l_a => .ldRegReg .l .a
  | .ld_atHL_b => .ldHLReg .b
  | .ld_atHL_c => .ldHLReg .c
  | .ld_atHL_d => .ldHLReg .d
  | .ld_atHL_e => .ldHLReg .e
  | .ld_atHL_h => .ldHLReg .h
  | .ld_atHL_l => .ldHLReg .l
  | .halt => .halt
  | .ld_atHL_a => .ldHLReg .a
  | .ld_a_b => .ldRegReg .a .b
  | .ld_a_c => .ldRegReg .a .c
  | .ld_a_d => .ldRegReg .a .d
  | .ld_a_e => .ldRegReg .a .e
  | .ld_a_h => .ldRegReg .a .h
  | .ld_a_l => .ldRegReg .a .l
  | .ld_a_atHL => .ldRegHL .a
  | .ld_a_a => .ldRegReg .a .a
  | .add_a_b => .alu .add (.reg .b)
  | .add_a_c => .alu .add (.reg .c)
  | .add_a_d => .alu .add (.reg .d)
  | .add_a_e => .alu .add (.reg .e)
  | .add_a_h => .alu .add (.reg .h)
  | .add_a_l => .alu .add (.reg .l)
  | .add_a_atHL => .alu .add .atHL
  | .add_a_a => .alu .add (.reg .a)
  | .adc_a_b => .alu .adc (.reg .b)
  | .adc_a_c => .alu .adc (.reg .c)
  | .adc_a_d => .alu .adc (.reg .d)
  | .adc_a_e => .alu .adc (.reg .e)
  | .adc_a_h => .alu .adc (.reg .h)
  | .adc_a_l => .alu .adc (.reg .l)
  | .adc_a_atHL => .alu .adc .atHL
  | .adc_a_a => .alu .adc (.reg .a)
  | .sub_b => .alu .sub (.reg .b)
  | .sub_c => .alu .sub (.reg .c)
  | .sub_d => .alu .sub (.reg .d)
  | .sub_e => .alu .sub (.reg .e)
  | .sub_h => .alu .sub (.reg .h)
  | .sub_l => .alu .sub (.reg .l)
  | .sub_atHL => .alu .sub .atHL
  | .sub_a => .alu .sub (.reg .a)
  | .sbc_a_b => .alu .sbc (.reg .b)
  | .sbc_a_c => .alu .sbc (.reg .c)
  | .sbc_a_d => .alu .sbc (.reg .d)
  | .sbc_a_e => .alu .sbc (.reg .e)
  | .sbc_a_h => .alu .sbc (.reg .h)
  | .sbc_a_l => .alu .sbc (.reg .l)
  | .sbc_a_atHL => .alu .sbc .atHL
  | .sbc_a_a => .alu .sbc (.reg .a)
  | .and_b => .alu .and (.reg .b)
  | .and_c => .alu .and (.reg .c)
  | .and_d => .alu .and (.reg .d)
  | .and_e => .alu .and (.reg .e)
  | .and_h => .alu .and (.reg .h)
  | .and_l => .alu .and (.reg .l)
  | .and_atHL => .alu .and .atHL
  | .and_a => .alu .and (.reg .a)
  | .xor_b => .alu .xor (.reg .b)
  | .xor_c => .alu .xor (.reg .c)
  | .xor_d => .alu .xor (.reg .d)
  | .xor_e => .alu .xor (.reg .e)
  | .xor_h => .alu .xor (.reg .h)
  | .xor_l => .alu .xor (.reg .l)
  | .xor_atHL => .alu .xor .atHL
  | .xor_a => .alu .xor (.reg .a)
  | .or_b => .alu .or (.reg .b)
  | .or_c => .alu .or (.reg .c)
  | .or_d => .alu .or (.reg .d)
  | .or_e => .alu .or (.reg .e)
  | .or_h => .alu .or (.reg .h)
  | .or_l => .alu .or (.reg .l)
  | .or_atHL => .alu .or .atHL
  | .or_a => .alu .or (.reg .a)
  | .cp_b => .alu .cp (.reg .b)
  | .cp_c => .alu .cp (.reg .c)
  | .cp_d => .alu .cp (.reg .d)
  | .cp_e => .alu .cp (.reg .e)
  | .cp_h => .alu .cp (.reg .h)
  | .cp_l => .alu .cp (.reg .l)
  | .cp_atHL => .alu .cp .atHL
  | .cp_a => .alu .cp (.reg .a)
  | .ret_nz => .retCond .nz
  | .pop_bc => .pop .bc
  | .jp_nz_nn nn => .jpCond .nz nn
  | .jp_nn nn => .jp nn
  | .call_nz_nn nn => .callCond .nz nn
  | .push_bc => .push .bc
  | .add_a_n n => .alu .add (.imm n)
  | .rst_00 => .rst 0
  | .ret_z => .retCond .z
  | .ret => .ret
  | .jp_z_nn nn => .jpCond .z nn
  | .cbPrefix op2 => .cbPrefix op2
  | .call_z_nn nn => .callCond .z nn
  | .call_nn nn => .call nn
  | .adc_a_n n => .alu .adc (.imm n)
  | .rst_08 => .rst 1
  | .ret_nc => .retCond .nc
  | .pop_de => .pop .de
  | .jp_nc_nn nn => .jpCond .nc nn
  | .illegal op => .illegal op
  | .call_nc_nn nn => .callCond .nc nn
  | .push_de => .push .de
  | .sub_n n => .alu .sub (.imm n)
  | .rst_10 => .rst 2
  | .ret_c => .retCond .c
  | .reti => .reti
  | .jp_c_nn nn => .jpCond .c nn
  | .call_c_nn nn => .callCond .c nn
  | .sbc_a_n n => .alu .sbc (.imm n)
  | .rst_18 => .rst 3
  | .ldh_atN_a n => .ldhImmA n
  | .pop_hl => .pop .hl
  | .ld_atC_a => .ldhCA
  | .push_hl => .push .hl
  | .and_n n => .alu .and (.imm n)
  | .rst_20 => .rst 4
  | .add_sp_e e => .addSPe e
  | .jp_hl => .jpHL
  | .ld_atNN_a nn => .ldAbsA nn
  | .xor_n n => .alu .xor (.imm n)
  | .rst_28 => .rst 5
  | .ldh_a_atN n => .ldhAImm n
  | .pop_af => .pop .af
  | .ld_a_atC => .ldhAC
  | .di => .di
  | .push_af => .push .af
  | .or_n n => .alu .or (.imm n)
  | .rst_30 => .rst 6
  | .ld_hl_spE e => .ldHLSPe e
  | .ld_sp_hl => .ldSPHL
  | .ld_a_atNN nn => .ldAAbs nn
  | .ei => .ei
  | .cp_n n => .alu .cp (.imm n)
  | .rst_38 => .rst 7
  | .rlc_b => .cbRotate .rlc (.reg .b)
  | .rlc_c => .cbRotate .rlc (.reg .c)
  | .rlc_d => .cbRotate .rlc (.reg .d)
  | .rlc_e => .cbRotate .rlc (.reg .e)
  | .rlc_h => .cbRotate .rlc (.reg .h)
  | .rlc_l => .cbRotate .rlc (.reg .l)
  | .rlc_atHL => .cbRotate .rlc .atHL
  | .rlc_a => .cbRotate .rlc (.reg .a)
  | .rrc_b => .cbRotate .rrc (.reg .b)
  | .rrc_c => .cbRotate .rrc (.reg .c)
  | .rrc_d => .cbRotate .rrc (.reg .d)
  | .rrc_e => .cbRotate .rrc (.reg .e)
  | .rrc_h => .cbRotate .rrc (.reg .h)
  | .rrc_l => .cbRotate .rrc (.reg .l)
  | .rrc_atHL => .cbRotate .rrc .atHL
  | .rrc_a => .cbRotate .rrc (.reg .a)
  | .rl_b => .cbRotate .rl (.reg .b)
  | .rl_c => .cbRotate .rl (.reg .c)
  | .rl_d => .cbRotate .rl (.reg .d)
  | .rl_e => .cbRotate .rl (.reg .e)
  | .rl_h => .cbRotate .rl (.reg .h)
  | .rl_l => .cbRotate .rl (.reg .l)
  | .rl_atHL => .cbRotate .rl .atHL
  | .rl_a => .cbRotate .rl (.reg .a)
  | .rr_b => .cbRotate .rr (.reg .b)
  | .rr_c => .cbRotate .rr (.reg .c)
  | .rr_d => .cbRotate .rr (.reg .d)
  | .rr_e => .cbRotate .rr (.reg .e)
  | .rr_h => .cbRotate .rr (.reg .h)
  | .rr_l => .cbRotate .rr (.reg .l)
  | .rr_atHL => .cbRotate .rr .atHL
  | .rr_a => .cbRotate .rr (.reg .a)
  | .sla_b => .cbRotate .sla (.reg .b)
  | .sla_c => .cbRotate .sla (.reg .c)
  | .sla_d => .cbRotate .sla (.reg .d)
  | .sla_e => .cbRotate .sla (.reg .e)
  | .sla_h => .cbRotate .sla (.reg .h)
  | .sla_l => .cbRotate .sla (.reg .l)
  | .sla_atHL => .cbRotate .sla .atHL
  | .sla_a => .cbRotate .sla (.reg .a)
  | .sra_b => .cbRotate .sra (.reg .b)
  | .sra_c => .cbRotate .sra (.reg .c)
  | .sra_d => .cbRotate .sra (.reg .d)
  | .sra_e => .cbRotate .sra (.reg .e)
  | .sra_h => .cbRotate .sra (.reg .h)
  | .sra_l => .cbRotate .sra (.reg .l)
  | .sra_atHL => .cbRotate .sra .atHL
  | .sra_a => .cbRotate .sra (.reg .a)
  | .swap_b => .cbRotate .swap (.reg .b)
  | .swap_c => .cbRotate .swap (.reg .c)
  | .swap_d => .cbRotate .swap (.reg .d)
  | .swap_e => .cbRotate .swap (.reg .e)
  | .swap_h => .cbRotate .swap (.reg .h)
  | .swap_l => .cbRotate .swap (.reg .l)
  | .swap_atHL => .cbRotate .swap .atHL
  | .swap_a => .cbRotate .swap (.reg .a)
  | .srl_b => .cbRotate .srl (.reg .b)
  | .srl_c => .cbRotate .srl (.reg .c)
  | .srl_d => .cbRotate .srl (.reg .d)
  | .srl_e => .cbRotate .srl (.reg .e)
  | .srl_h => .cbRotate .srl (.reg .h)
  | .srl_l => .cbRotate .srl (.reg .l)
  | .srl_atHL => .cbRotate .srl .atHL
  | .srl_a => .cbRotate .srl (.reg .a)
  | .bit_0_b => .bitTest 0 (.reg .b)
  | .bit_0_c => .bitTest 0 (.reg .c)
  | .bit_0_d => .bitTest 0 (.reg .d)
  | .bit_0_e => .bitTest 0 (.reg .e)
  | .bit_0_h => .bitTest 0 (.reg .h)
  | .bit_0_l => .bitTest 0 (.reg .l)
  | .bit_0_atHL => .bitTest 0 .atHL
  | .bit_0_a => .bitTest 0 (.reg .a)
  | .bit_1_b => .bitTest 1 (.reg .b)
  | .bit_1_c => .bitTest 1 (.reg .c)
  | .bit_1_d => .bitTest 1 (.reg .d)
  | .bit_1_e => .bitTest 1 (.reg .e)
  | .bit_1_h => .bitTest 1 (.reg .h)
  | .bit_1_l => .bitTest 1 (.reg .l)
  | .bit_1_atHL => .bitTest 1 .atHL
  | .bit_1_a => .bitTest 1 (.reg .a)
  | .bit_2_b => .bitTest 2 (.reg .b)
  | .bit_2_c => .bitTest 2 (.reg .c)
  | .bit_2_d => .bitTest 2 (.reg .d)
  | .bit_2_e => .bitTest 2 (.reg .e)
  | .bit_2_h => .bitTest 2 (.reg .h)
  | .bit_2_l => .bitTest 2 (.reg .l)
  | .bit_2_atHL => .bitTest 2 .atHL
  | .bit_2_a => .bitTest 2 (.reg .a)
  | .bit_3_b => .bitTest 3 (.reg .b)
  | .bit_3_c => .bitTest 3 (.reg .c)
  | .bit_3_d => .bitTest 3 (.reg .d)
  | .bit_3_e => .bitTest 3 (.reg .e)
  | .bit_3_h => .bitTest 3 (.reg .h)
  | .bit_3_l => .bitTest 3 (.reg .l)
  | .bit_3_atHL => .bitTest 3 .atHL
  | .bit_3_a => .bitTest 3 (.reg .a)
  | .bit_4_b => .bitTest 4 (.reg .b)
  | .bit_4_c => .bitTest 4 (.reg .c)
  | .bit_4_d => .bitTest 4 (.reg .d)
  | .bit_4_e => .bitTest 4 (.reg .e)
  | .bit_4_h => .bitTest 4 (.reg .h)
  | .bit_4_l => .bitTest 4 (.reg .l)
  | .bit_4_atHL => .bitTest 4 .atHL
  | .bit_4_a => .bitTest 4 (.reg .a)
  | .bit_5_b => .bitTest 5 (.reg .b)
  | .bit_5_c => .bitTest 5 (.reg .c)
  | .bit_5_d => .bitTest 5 (.reg .d)
  | .bit_5_e => .bitTest 5 (.reg .e)
  | .bit_5_h => .bitTest 5 (.reg .h)
  | .bit_5_l => .bitTest 5 (.reg .l)
  | .bit_5_atHL => .bitTest 5 .atHL
  | .bit_5_a => .bitTest 5 (.reg .a)
  | .bit_6_b => .bitTest 6 (.reg .b)
  | .bit_6_c => .bitTest 6 (.reg .c)
  | .bit_6_d => .bitTest 6 (.reg .d)
  | .bit_6_e => .bitTest 6 (.reg .e)
  | .bit_6_h => .bitTest 6 (.reg .h)
  | .bit_6_l => .bitTest 6 (.reg .l)
  | .bit_6_atHL => .bitTest 6 .atHL
  | .bit_6_a => .bitTest 6 (.reg .a)
  | .bit_7_b => .bitTest 7 (.reg .b)
  | .bit_7_c => .bitTest 7 (.reg .c)
  | .bit_7_d => .bitTest 7 (.reg .d)
  | .bit_7_e => .bitTest 7 (.reg .e)
  | .bit_7_h => .bitTest 7 (.reg .h)
  | .bit_7_l => .bitTest 7 (.reg .l)
  | .bit_7_atHL => .bitTest 7 .atHL
  | .bit_7_a => .bitTest 7 (.reg .a)
  | .res_0_b => .bitReset 0 (.reg .b)
  | .res_0_c => .bitReset 0 (.reg .c)
  | .res_0_d => .bitReset 0 (.reg .d)
  | .res_0_e => .bitReset 0 (.reg .e)
  | .res_0_h => .bitReset 0 (.reg .h)
  | .res_0_l => .bitReset 0 (.reg .l)
  | .res_0_atHL => .bitReset 0 .atHL
  | .res_0_a => .bitReset 0 (.reg .a)
  | .res_1_b => .bitReset 1 (.reg .b)
  | .res_1_c => .bitReset 1 (.reg .c)
  | .res_1_d => .bitReset 1 (.reg .d)
  | .res_1_e => .bitReset 1 (.reg .e)
  | .res_1_h => .bitReset 1 (.reg .h)
  | .res_1_l => .bitReset 1 (.reg .l)
  | .res_1_atHL => .bitReset 1 .atHL
  | .res_1_a => .bitReset 1 (.reg .a)
  | .res_2_b => .bitReset 2 (.reg .b)
  | .res_2_c => .bitReset 2 (.reg .c)
  | .res_2_d => .bitReset 2 (.reg .d)
  | .res_2_e => .bitReset 2 (.reg .e)
  | .res_2_h => .bitReset 2 (.reg .h)
  | .res_2_l => .bitReset 2 (.reg .l)
  | .res_2_atHL => .bitReset 2 .atHL
  | .res_2_a => .bitReset 2 (.reg .a)
  | .res_3_b => .bitReset 3 (.reg .b)
  | .res_3_c => .bitReset 3 (.reg .c)
  | .res_3_d => .bitReset 3 (.reg .d)
  | .res_3_e => .bitReset 3 (.reg .e)
  | .res_3_h => .bitReset 3 (.reg .h)
  | .res_3_l => .bitReset 3 (.reg .l)
  | .res_3_atHL => .bitReset 3 .atHL
  | .res_3_a => .bitReset 3 (.reg .a)
  | .res_4_b => .bitReset 4 (.reg .b)
  | .res_4_c => .bitReset 4 (.reg .c)
  | .res_4_d => .bitReset 4 (.reg .d)
  | .res_4_e => .bitReset 4 (.reg .e)
  | .res_4_h => .bitReset 4 (.reg .h)
  | .res_4_l => .bitReset 4 (.reg .l)
  | .res_4_atHL => .bitReset 4 .atHL
  | .res_4_a => .bitReset 4 (.reg .a)
  | .res_5_b => .bitReset 5 (.reg .b)
  | .res_5_c => .bitReset 5 (.reg .c)
  | .res_5_d => .bitReset 5 (.reg .d)
  | .res_5_e => .bitReset 5 (.reg .e)
  | .res_5_h => .bitReset 5 (.reg .h)
  | .res_5_l => .bitReset 5 (.reg .l)
  | .res_5_atHL => .bitReset 5 .atHL
  | .res_5_a => .bitReset 5 (.reg .a)
  | .res_6_b => .bitReset 6 (.reg .b)
  | .res_6_c => .bitReset 6 (.reg .c)
  | .res_6_d => .bitReset 6 (.reg .d)
  | .res_6_e => .bitReset 6 (.reg .e)
  | .res_6_h => .bitReset 6 (.reg .h)
  | .res_6_l => .bitReset 6 (.reg .l)
  | .res_6_atHL => .bitReset 6 .atHL
  | .res_6_a => .bitReset 6 (.reg .a)
  | .res_7_b => .bitReset 7 (.reg .b)
  | .res_7_c => .bitReset 7 (.reg .c)
  | .res_7_d => .bitReset 7 (.reg .d)
  | .res_7_e => .bitReset 7 (.reg .e)
  | .res_7_h => .bitReset 7 (.reg .h)
  | .res_7_l => .bitReset 7 (.reg .l)
  | .res_7_atHL => .bitReset 7 .atHL
  | .res_7_a => .bitReset 7 (.reg .a)
  | .set_0_b => .bitSet 0 (.reg .b)
  | .set_0_c => .bitSet 0 (.reg .c)
  | .set_0_d => .bitSet 0 (.reg .d)
  | .set_0_e => .bitSet 0 (.reg .e)
  | .set_0_h => .bitSet 0 (.reg .h)
  | .set_0_l => .bitSet 0 (.reg .l)
  | .set_0_atHL => .bitSet 0 .atHL
  | .set_0_a => .bitSet 0 (.reg .a)
  | .set_1_b => .bitSet 1 (.reg .b)
  | .set_1_c => .bitSet 1 (.reg .c)
  | .set_1_d => .bitSet 1 (.reg .d)
  | .set_1_e => .bitSet 1 (.reg .e)
  | .set_1_h => .bitSet 1 (.reg .h)
  | .set_1_l => .bitSet 1 (.reg .l)
  | .set_1_atHL => .bitSet 1 .atHL
  | .set_1_a => .bitSet 1 (.reg .a)
  | .set_2_b => .bitSet 2 (.reg .b)
  | .set_2_c => .bitSet 2 (.reg .c)
  | .set_2_d => .bitSet 2 (.reg .d)
  | .set_2_e => .bitSet 2 (.reg .e)
  | .set_2_h => .bitSet 2 (.reg .h)
  | .set_2_l => .bitSet 2 (.reg .l)
  | .set_2_atHL => .bitSet 2 .atHL
  | .set_2_a => .bitSet 2 (.reg .a)
  | .set_3_b => .bitSet 3 (.reg .b)
  | .set_3_c => .bitSet 3 (.reg .c)
  | .set_3_d => .bitSet 3 (.reg .d)
  | .set_3_e => .bitSet 3 (.reg .e)
  | .set_3_h => .bitSet 3 (.reg .h)
  | .set_3_l => .bitSet 3 (.reg .l)
  | .set_3_atHL => .bitSet 3 .atHL
  | .set_3_a => .bitSet 3 (.reg .a)
  | .set_4_b => .bitSet 4 (.reg .b)
  | .set_4_c => .bitSet 4 (.reg .c)
  | .set_4_d => .bitSet 4 (.reg .d)
  | .set_4_e => .bitSet 4 (.reg .e)
  | .set_4_h => .bitSet 4 (.reg .h)
  | .set_4_l => .bitSet 4 (.reg .l)
  | .set_4_atHL => .bitSet 4 .atHL
  | .set_4_a => .bitSet 4 (.reg .a)
  | .set_5_b => .bitSet 5 (.reg .b)
  | .set_5_c => .bitSet 5 (.reg .c)
  | .set_5_d => .bitSet 5 (.reg .d)
  | .set_5_e => .bitSet 5 (.reg .e)
  | .set_5_h => .bitSet 5 (.reg .h)
  | .set_5_l => .bitSet 5 (.reg .l)
  | .set_5_atHL => .bitSet 5 .atHL
  | .set_5_a => .bitSet 5 (.reg .a)
  | .set_6_b => .bitSet 6 (.reg .b)
  | .set_6_c => .bitSet 6 (.reg .c)
  | .set_6_d => .bitSet 6 (.reg .d)
  | .set_6_e => .bitSet 6 (.reg .e)
  | .set_6_h => .bitSet 6 (.reg .h)
  | .set_6_l => .bitSet 6 (.reg .l)
  | .set_6_atHL => .bitSet 6 .atHL
  | .set_6_a => .bitSet 6 (.reg .a)
  | .set_7_b => .bitSet 7 (.reg .b)
  | .set_7_c => .bitSet 7 (.reg .c)
  | .set_7_d => .bitSet 7 (.reg .d)
  | .set_7_e => .bitSet 7 (.reg .e)
  | .set_7_h => .bitSet 7 (.reg .h)
  | .set_7_l => .bitSet 7 (.reg .l)
  | .set_7_atHL => .bitSet 7 .atHL
  | .set_7_a => .bitSet 7 (.reg .a)

/-- An opcode byte of its fields `x = op[7:6]`, `y = op[5:3]`, `z = op[2:0]` (R102). -/
def opXYZ (x : BitVec 2) (y z : BitVec 3) : Byte := x ++ y ++ z

/-- An opcode byte of its fields `x`, `p = op[5:4]`, `q = op[3]`, `z` (R102). -/
def opXPQZ (x p : BitVec 2) (q : BitVec 1) (z : BitVec 3) : Byte := x ++ p ++ q ++ z

/-- The bytes of a 16-bit immediate, low byte first (R103). -/
def imm16 (nn : Word) : List Byte := [loByte nn, hiByte nn]

/-- The field of the primary table that holds the operand form of an accumulator operation (R180). -/
def aluEncode (k : AluOp) : Src8 → List Byte
  | .reg r => [opXYZ 2 k.code r.code]
  | .atHL => [opXYZ 2 k.code 6]
  | .imm n => [opXYZ 3 k.code 6, n]

/-- A condition code as the field y of JP, CALL and RET (R108: y = 0..3). -/
def condLow (cc : Cond) : BitVec 3 := 0#1 ++ cc.code

/-- A condition code as the field y of JR (R108: y = 4..7). -/
def condHigh (cc : Cond) : BitVec 3 := 1#1 ++ cc.code

/-- The bytes of an instruction of the given kind (R108, R110, and the Encoding line of each rule). -/
def encodeKind : Kind → List Byte
  | .ldRegReg dst src => [opXYZ 1 dst.code src.code]
  | .ldRegImm dst n => [opXYZ 0 dst.code 6, n]
  | .ldRegHL dst => [opXYZ 1 dst.code 6]
  | .ldHLReg r => [opXYZ 1 6 r.code]
  | .ldHLImm n => [opXYZ 0 6 6, n]
  | .ldAPair p => [opXPQZ 0 p.code 1 2]
  | .ldPairA p => [opXPQZ 0 p.code 0 2]
  | .ldAHLPost k => [opXPQZ 0 k.code 1 2]
  | .ldHLPostA k => [opXPQZ 0 k.code 0 2]
  | .ldhImmA n => [opXYZ 3 4 0, n]
  | .ldhAImm n => [opXYZ 3 6 0, n]
  | .ldhCA => [opXYZ 3 4 2]
  | .ldhAC => [opXYZ 3 6 2]
  | .ldAbsA nn => opXYZ 3 5 2 :: imm16 nn
  | .ldAAbs nn => opXYZ 3 7 2 :: imm16 nn
  | .ldPairImm p nn => opXPQZ 0 p.code 0 1 :: imm16 nn
  | .ldAbsSP nn => opXYZ 0 1 0 :: imm16 nn
  | .ldSPHL => [opXPQZ 3 3 1 1]
  | .ldHLSPe e => [opXYZ 3 7 0, e]
  | .push q => [opXPQZ 3 q.code 0 5]
  | .pop q => [opXPQZ 3 q.code 0 1]
  | .addSPe e => [opXYZ 3 5 0, e]
  | .alu k v => aluEncode k v
  | .inc8 d => [opXYZ 0 d.code 4]
  | .dec8 d => [opXYZ 0 d.code 5]
  | .daa => [opXYZ 0 4 7]
  | .cpl => [opXYZ 0 5 7]
  | .scf => [opXYZ 0 6 7]
  | .ccf => [opXYZ 0 7 7]
  | .addHL p => [opXPQZ 0 p.code 1 1]
  | .incPair p => [opXPQZ 0 p.code 0 3]
  | .decPair p => [opXPQZ 0 p.code 1 3]
  | .accRotate k => [opXYZ 0 k.code 7]
  | .cbRotate k d => [0xCB, opXYZ 0 k.code d.code]
  | .bitTest n d => [0xCB, opXYZ 1 n d.code]
  | .bitReset n d => [0xCB, opXYZ 2 n d.code]
  | .bitSet n d => [0xCB, opXYZ 3 n d.code]
  | .jp nn => opXYZ 3 0 3 :: imm16 nn
  | .jpCond cc nn => opXYZ 3 (condLow cc) 2 :: imm16 nn
  | .jpHL => [opXPQZ 3 2 1 1]
  | .jr e => [opXYZ 0 3 0, e]
  | .jrCond cc e => [opXYZ 0 (condHigh cc) 0, e]
  | .call nn => opXPQZ 3 0 1 5 :: imm16 nn
  | .callCond cc nn => opXYZ 3 (condLow cc) 4 :: imm16 nn
  | .ret => [opXPQZ 3 0 1 1]
  | .retCond cc => [opXYZ 3 (condLow cc) 0]
  | .reti => [opXPQZ 3 1 1 1]
  | .rst y => [opXYZ 3 y 7]
  | .nop => [opXYZ 0 0 0]
  | .halt => [opXYZ 1 6 6]
  | .stop pad => [opXYZ 0 2 0, pad]
  | .di => [opXYZ 3 6 3]
  | .ei => [opXYZ 3 7 3]
  | .cbPrefix op2 => [0xCB, op2]
  | .illegal op => [op]

/-- The bytes of an instruction, the first at the lowest address. -/
def encode (i : Instr) : List Byte := encodeKind i.kind

end Sys2Proof
end

