-- ==== Sys2Proof/Machine/Fetch.lean ====
section
/-! DEFINITION. Fetching the bytes of the next instruction (R84, R90, R114), and placing an instruction where the next fetch reads it. -/

namespace Sys2Proof.Machine

/-- Fetches the instruction at pc: the opcode, then the secondary or immediate bytes it has, at ascending addresses that
wrap (R90, R114), each an ordinary bus read (R84); then decodes them. -/
def fetch (s : State) : Instr × State :=
  let op := readByte s.pc s
  match instrLength op.1 with
  | 1 => (decodeInstr op.1 0 0, op.2)
  | 2 =>
    let b1 := readByte (s.pc + 1) op.2
    (decodeInstr op.1 b1.1 0, b1.2)
  | _ =>
    let b1 := readByte (s.pc + 1) op.2
    let b2 := readByte (s.pc + 2) b1.2
    (decodeInstr op.1 b1.1 b2.1, b2.2)

/-- Whether the place behind an address keeps bytes that a fetch reads back. -/
def Target.isStorage : Target → Bool
  | .bootRom _ | .cartRom _ | .vram _ | .eram _ | .wram _ | .oam _ | .hram _ => true
  | .unused | .ifReg | .lcdc | .stat | .ly | .lyc | .bootOff | .ioPort | .ieReg => false

/-- Puts a byte in the storage behind `addr` from outside the machine (a ROM image is loaded, a RAM byte poked): the views
the PPU derives are kept in step. Where there is no storage nothing changes. -/
def placeByte (addr : Word) (v : Byte) (s : State) : State :=
  match s.target addr with
  | .bootRom i => { s with cfg := { s.cfg with bootRom := Memory.write s.cfg.bootRom i v } }
  | .cartRom i => { s with cfg := { s.cfg with cartRom := Memory.write s.cfg.cartRom i v } }
  | .vram i => { s with ppu := s.ppu.writeVram i v }
  | .eram i => { s with eram := s.eram.write i v }
  | .wram i => { s with wram := s.wram.write i v }
  | .oam i => { s with ppu := s.ppu.writeOam i v }
  | .hram i => { s with hram := s.hram.write i v }
  | _ => s

/-- Whether three bytes can be placed from `addr` on. -/
def State.canPlace (s : State) (addr : Word) : Bool :=
  (s.target addr).isStorage && (s.target (addr + 1)).isStorage && (s.target (addr + 2)).isStorage

/-- What the next step's fetch needs besides the bytes (R340, steps 0 to 2): no latched fault, no stall, no halt, no
dispatch taken in its place, and a pc that points at storage (working RAM where it does not). Nothing else changes, and a
state that is fetching already is left as it is. -/
def State.readyToFetch (s : State) : State :=
  { s with
    fault := none
    stopped := s.stopped && !s.cfg.stopStalls
    halted := false
    ime := s.ime && (s.ie &&& s.iflags == 0)
    pc := if s.canPlace s.pc then s.pc else 0xC000 }

/-- Places three bytes from pc on. -/
def State.placeAtPc (s : State) (b : Byte × Byte × Byte) : State :=
  placeByte (s.pc + 2) b.2.2 (placeByte (s.pc + 1) b.2.1 (placeByte s.pc b.1 s))

end Sys2Proof.Machine
end

