-- ==== Sys2Proof/Machine/Engine.lean ====
section
/-! DEFINITION. The step procedure `Step(ext)` of R340, phase by phase. -/

namespace Sys2Proof.Machine

/-- Step 0: whether the engine takes no step at all, because a fault is latched (R347) or it is stopped and stalls (R367). -/
def State.stalled (s : State) : Bool := s.fault.isSome || (s.cfg.stopStalls && s.stopped)

/-- `pend = ie & iflags` (R352). -/
def State.pend (s : State) : IntSet := s.ie &&& s.iflags

/-- The wake test of step 1 (R357): a pending interrupt ends a halt, whatever `ime` is. -/
def State.wakeTest (s : State) : State := { s with halted := s.halted && s.pend == 0 }

/-- Step 4: the delayed flip (R342), applied if an enable was scheduled before the instruction and still is. -/
def flipIme (pending : Bool) (s : State) : State :=
  { s with
    ime := s.ime || (pending && s.imeScheduled)
    imeScheduled := s.imeScheduled && !pending }

/-- Step 5: the PPU is driven by the reported cycles and the requests are merged (R313, R351). -/
def finishStep (ext : IntSet) (s : State) : State :=
  let out := s.ppu.step s.cycles
  { s with ppu := out.1, iflags := s.iflags ||| out.2.mask ||| ext }

/-- Step 1, dispatch: one interrupt is taken in place of an instruction; a fatal push ends the step at once (R347). -/
def dispatchStep (ext : IntSet) (s : State) : Result :=
  match takeInterrupt s.pend s with
  | .done t => .next (finishStep ext t)
  | .fatal t => .next t

/-- Step 2: a halted engine idles (R341). -/
def idleStep (ext : IntSet) (s : State) : Result :=
  .next (finishStep ext { s with cycles := s.cfg.cycles.idle })

/-- What follows the execution of an instruction: if it raised a fatal error the step ends at once (R347); else the flip
of step 4, then step 5. pc has been committed by the instruction; nothing between reads it. -/
def afterInstr (ext : IntSet) (pending : Bool) (r : Result) : Result :=
  match r with
  | .next t => if t.fault.isSome then .next t else .next (finishStep ext (flipIme pending t))
  | .fault f => .fault f
  | .refused f => .refused f

/-- Steps 3 to 5: one instruction is fetched, decoded and executed; `pending` is `ime_scheduled` as it was before. -/
def instrStep (ext : IntSet) (s : State) : Result :=
  afterInstr ext s.imeScheduled (exec (fetch s).1 (fetch s).2)

/-- `Step(ext)` of R340, single-threaded and synchronous (R364): exactly one of nothing, one interrupt dispatch, one idle step, one instruction. A step that does
nothing reports no cycles. -/
def stepWith (ext : IntSet) (s : State) : Result :=
  if s.stalled then .next { s with cycles := 0 }
  else if s.ime && s.pend != 0 then dispatchStep ext s.wakeTest
  else if s.wakeTest.halted then idleStep ext s.wakeTest
  else instrStep ext s.wakeTest

/-- The `ExtIrq` input of the coming step (R7: no request by default). -/
def State.nextExt (s : State) : IntSet := s.extIrq.headD 0

/-- The coming step's input taken off the list. -/
def State.dropExt (s : State) : State := { s with extIrq := s.extIrq.tail }

end Sys2Proof.Machine
end

