-- ==== Sys2Proof/Machine/Step.lean ====
section
/-! DEFINITION. One step of the machine, and an instruction word placed where it is fetched next. -/

namespace Sys2Proof.Machine

/-- One call of `Step(ext)` (R340), with the next `ExtIrq` input of the list `extIrq`. -/
def step (s : State) : Host.Outcome State Fault Refusal := stepWith s.nextExt s.dropExt

/-- `s` with the instruction of opcode-table word `w` placed where the next step fetches (assumption log 13). -/
def State.withFetchWord (s : State) (nbits w : Nat) : State :=
  s.readyToFetch.placeAtPc (Sys2Proof.tableBytes nbits w)

end Sys2Proof.Machine
end

