-- ==== Sys2Proof/Safety.lean ====
section
/-! DEFINITION. What counts as a safe run: no fatal error is latched (60_exceptions.md section 2), storage is in its canonical form, and the PPU is within the ranges R40 gives it. -/

namespace Sys2Proof.Machine

/-- No fatal error has been latched (R29, R347). -/
def State.Safe (s : State) : Prop := s.fault = none

/-- Whether the run is over. DESIGN CHOICE (log entry 21): R392 defines no event that ends a run and leaves it to the host
(decision D35: a model "must define its own end-of-run for claims"). The model's are the three R392 names: a fault is
latched; the next instruction is the spin `JR -2`; the engine is halted with interrupts disabled and IE = 0. -/
def State.ended (s : State) : Bool :=
  s.fault.isSome || (s.peek s.pc == 0x18 && s.peek (s.pc + 1) == 0xFE && !(s.ime && s.ie &&& s.iflags != 0)) ||
    (s.halted && !s.ime && s.ie == 0)

/-- `n` steps, none of which leaves the machine with a latched fault. DESIGN CHOICE (log entry 21): a run is as many steps as
the host takes, since no event ends one (R392, D35); a run up to its end is one whose last state is `ended`. -/
def SafeFor : Nat → State → Prop
  | 0, s => s.Safe
  | n + 1, s => s.Safe ∧ ∃ t, step s = .next t ∧ SafeFor n t

/-- Every array of the machine is in its canonical form. -/
def State.storageWf (s : State) : Bool :=
  s.wram.wf && s.eram.wf && s.hram.wf && s.ppu.vram.wf && s.ppu.oam.wf &&
    Cells.wf zeroRow s.ppu.tiles && Cells.wf zeroObject s.ppu.objects

/-- Every entry of an array lies below its size (R6). -/
def boundedBy {α : Type} (n : Nat) (m : Cells α) : Bool := m.all fun c => decide (c.1 < n)

/-- No array holds an entry past its size: 0x2000, 0x2000, 0x7F, 0x2000 and 0xA0 bytes, 384 tiles of 8 rows, 40 entries (R6). -/
def State.sizesOk (s : State) : Bool :=
  boundedBy 0x2000 s.wram && boundedBy 0x2000 s.eram && boundedBy 0x7F s.hram && boundedBy 0x2000 s.ppu.vram &&
    boundedBy 0xA0 s.ppu.oam && boundedBy (384 * 8) s.ppu.tiles && boundedBy 40 s.ppu.objects

/-- R306: between calls `ppu_cycles` is smaller than the current mode's duration. -/
def Ppu.CounterOk (p : Ppu) : Prop := p.cycles < p.mode.duration

/-- R40, R309, R310: LY is 144 to 153 in VBlank and below 144 in the other modes. -/
def Ppu.LyOk (p : Ppu) : Prop :=
  match p.mode with
  | .vBlank => 144 ≤ p.ly.toNat ∧ p.ly.toNat ≤ 153
  | _ => p.ly.toNat < 144

/-- R296: every row of the tile cache is the row its two VRAM bytes give. -/
def Ppu.TilesOk (p : Ppu) : Prop :=
  ∀ t row, t < 384 → row < 8 → Cells.read zeroRow p.tiles (tileKey t row) = tileRowOf p.vram t row

/-- Each object entry is its OAM record decoded, in one or the other object size (R298, R299). -/
def Ppu.ObjectsOk (p : Ppu) : Prop :=
  ∀ k, k < 40 → ∃ size16, Cells.read zeroObject p.objects k = decodeObject p.oam size16 k

end Sys2Proof.Machine
end

