-- ==== Sys2Proof/Certificates/Slice0/Obligations.lean ====
section
/-! DEFINITION. The statements for the provers, after the few notions they are written in. Where a statement gives an instruction's result, the equality `exec i s = .next ...` is also its completion and its frame: every field not named keeps its value. -/

namespace Sys2Proof.Claims

open Sys2Proof.Machine

/-! ### Where a byte can be stored (R70, R85) -/

/-- An address of the unused range (R70). -/
def Unused (a : Word) : Prop := 0xFEA0 ≤ a.toNat ∧ a.toNat ≤ 0xFEFF

/-- An address of the boot ROM or of a ROM bank (R85). -/
def Rom (a : Word) : Prop := a.toNat < 0x8000

/-- A write to `a` is not fatal: the line "Exceptions: write" of 40_loads8.md, the other way round. -/
def Writable (s : State) (a : Word) : Prop := ¬Unused a ∧ (Rom a → s.cfg.romWrite = .ignore)

/-- An address of 0xFF00-0xFF7F that is none of the core's six registers (R74). -/
def Port (a : Word) : Prop :=
  0xFF00 ≤ a.toNat ∧ a.toNat ≤ 0xFF7F ∧ a ≠ 0xFF0F ∧ a ≠ 0xFF40 ∧ a ≠ 0xFF41 ∧ a ≠ 0xFF44 ∧ a ≠ 0xFF45 ∧ a ≠ 0xFF50

/-- Two different bytes of memory: not one address, and not a working RAM address and its mirror in the echo range (R68). -/
def Apart (a b : Word) : Prop :=
  a ≠ b ∧ ¬(0xC000 ≤ a.toNat ∧ a.toNat ≤ 0xDDFF ∧ b.toNat = a.toNat + 0x2000) ∧
    ¬(0xC000 ≤ b.toNat ∧ b.toNat ≤ 0xDDFF ∧ a.toNat = b.toNat + 0x2000)

/-- The fault latch set and nothing else (R347); the step reports no cycles. -/
def latched (f : Fatal) (s : State) : State := { s with fault := some f, cycles := 0 }

/-- The default of the parameter `CYCLES` (R7, R395). -/
def defaults : CycleTable := {}

/-- What an instruction that stores one byte does: `r` is the state after its reads, `fin` what is written after the store.
Where the write is fatal nothing is written but the latch. -/
def StoresByte (i : Instr) (s r : State) (a : Word) (v : Byte) (fin : State → State) : Prop :=
  (Writable s a → ∃ u, writeByte a v r = .done u ∧ exec i s = .next (fin u)) ∧
  (Unused a → exec i s = .next (latched (.unusedWrite a) s)) ∧
  (Rom a → s.cfg.romWrite = .fault → exec i s = .next (latched (.romWrite a) s))

/-- What a machine action that stores two bytes, `v1` at `a1` and then `v2` at `a2`, answers from the state `s`: both, and
then `fin`; or the first fatal write ends it, a byte already stored staying stored. -/
def StoresTwo (answer : Result) (s : State) (a1 : Word) (v1 : Byte) (a2 : Word) (v2 : Byte) (fin : State → State) : Prop :=
  (Writable s a1 → Writable s a2 →
    ∃ u w, writeByte a1 v1 s = .done u ∧ writeByte a2 v2 u = .done w ∧ answer = .next (fin w)) ∧
  (Unused a1 → answer = .next (latched (.unusedWrite a1) s)) ∧
  (Rom a1 → s.cfg.romWrite = .fault → answer = .next (latched (.romWrite a1) s)) ∧
  (Writable s a1 → Unused a2 →
    ∃ u, writeByte a1 v1 s = .done u ∧ answer = .next (latched (.unusedWrite a2) u)) ∧
  (Writable s a1 → Rom a2 → s.cfg.romWrite = .fault →
    ∃ u, writeByte a1 v1 s = .done u ∧ answer = .next (latched (.romWrite a2) u))

/-! ### Operands (R11, R104, R180) -/

/-- The byte a writable operand holds. -/
def locByte (s : State) : Loc8 → Byte
  | .reg r => s.regs.get r
  | .atHL => s.peek s.regs.hl

/-- The byte a source operand holds. -/
def srcByte (s : State) : Src8 → Byte
  | .reg r => s.regs.get r
  | .atHL => s.peek s.regs.hl
  | .imm n => n

/-- The state after a source operand is read: only the external port sees a read (R80). -/
def afterSrc (s : State) : Src8 → State
  | .atHL => s.noteRead s.regs.hl
  | _ => s

/-- The state after a writable operand is read. -/
def afterLoc (s : State) : Loc8 → State
  | .atHL => s.noteRead s.regs.hl
  | .reg _ => s

/-- The length of an accumulator operation (R180). -/
def aluLength : Src8 → Word
  | .imm _ => 2
  | _ => 1

/-- The three encodings of an accumulator operation of code `y` (R180). -/
def aluBytes (y : BitVec 3) : Src8 → List Byte
  | .reg r => [opXYZ 0b10 y r.code]
  | .atHL => [opXYZ 0b10 y 0b110]
  | .imm n => [opXYZ 0b11 y 0b110, n]

/-- What an accumulator operation answers: A, the four flags, pc and the report; nothing else changes but what a read of
the external port at (HL) does. -/
def aluAnswer (k : AluOp) (s : State) (v : Src8) (a : Byte) (f : Flags) : Result :=
  .next { afterSrc s v with
    regs := { s.regs with a := a }, flags := f, pc := s.pc + aluLength v, cycles := s.count (.alu k v) true }

/-- An accumulator operation written out: operand `v`, with `a` and `x` the numbers of A and of the operand and `c` the
carry. -/
def AluIs (k : AluOp) (result : Nat → Nat → Nat → Byte) (flags : Nat → Nat → Nat → Flags) : Prop :=
  ∀ (i : Instr) (v : Src8), i.kind = .alu k v → ∀ s : State,
    let a := s.regs.a.toNat
    let x := (srcByte s v).toNat
    let c := if s.flags.c then 1 else 0
    exec i s = aluAnswer k s v (result a x c) (flags a x c)

/-- A byte operation on a register or on the indirect-HL byte: the new byte and the new flags as functions of the old byte
and of the flags; `len` the length, `n` the cycles. In the (HL) form the write-back is a bus write, and no flag is written if
it is fatal. -/
def LocIs (i : Instr) (d : Loc8) (s : State) (v : Byte) (f : Flags) (len : Word) (n : Nat) : Prop :=
  match d with
  | .reg r => exec i s = .next { s with regs := s.regs.set r v, flags := f, pc := s.pc + len, cycles := n }
  | .atHL => StoresByte i s (s.noteRead s.regs.hl) s.regs.hl v fun u => { u with flags := f, pc := s.pc + len, cycles := n }

/-! ### Rotates and shifts as arithmetic (R220 to R232) -/

/-- The result of a rotate or shift of the number `v` (0 to 255) with carry-in `c` (0 or 1). -/
def rotated (k : CbRot) (v c : Nat) : Nat :=
  match k with
  | .rlc => 2 * v % 256 + v / 128
  | .rrc => v / 2 + 128 * (v % 2)
  | .rl => 2 * v % 256 + c
  | .rr => v / 2 + 128 * c
  | .sla => 2 * v % 256
  | .sra => v / 2 + 128 * (v / 128)
  | .swap => 16 * (v % 16) + v / 16
  | .srl => v / 2

/-- The bit that goes to the carry flag. -/
def rotatedOut (k : CbRot) (v : Nat) : Bool :=
  match k with
  | .rlc | .rl | .sla => decide (v ≥ 128)
  | .rrc | .rr | .sra | .srl => decide (v % 2 = 1)
  | .swap => false

/-- The general rotate that an accumulator rotate names. -/
def accGeneral : AccRot → CbRot
  | .rlca => .rlc
  | .rrca => .rrc
  | .rla => .rl
  | .rra => .rr

/-! ### The step (R340) -/

/-- Neither a latched fault nor a stall keeps the step from being taken (R340, step 0). -/
def Running (s : State) : Prop := s.fault = none ∧ ¬(s.cfg.stopStalls = true ∧ s.stopped = true)

/-- The sources that are enabled and requested (R352). -/
def pending (s : State) : IntSet := s.ie &&& s.iflags

/-- The step neither dispatches nor idles: it fetches an instruction (R340, steps 1 and 2). -/
def Fetching (s : State) : Prop :=
  Running s ∧ ¬(s.ime = true ∧ pending s ≠ 0) ∧ ¬(s.halted = true ∧ pending s = 0)

/-- Step 5 of R340: the PPU is driven by the reported cycles, then its request and the step's `ExtIrq` input are merged
into IF (R351). `before` is the state the step began in. -/
def settle (before u : State) : State :=
  { u with
    ppu := (u.ppu.step u.cycles).1
    iflags := u.iflags ||| (u.ppu.step u.cycles).2.mask ||| before.extIrq.headD 0 }

/-- The state in which an instruction's fetch begins: halt ended (R357), the step's `ExtIrq` input taken. -/
def atFetch (s : State) : State := { s with halted := false, extIrq := s.extIrq.tail }

/-- What step 4 of R340 does to the two interrupt-enable bits (R342). -/
def flipped (before t : State) : State :=
  { t with
    ime := t.ime || (before.imeScheduled && t.imeScheduled)
    imeScheduled := t.imeScheduled && !before.imeScheduled }

/-- What follows an instruction that answered `t`: nothing if a fault is latched (R347), else the flip and step 5. -/
def completed (before t : State) : State := if t.fault.isSome then t else settle before (flipped before t)

/-! ### What an instruction writes -/

/-- The instruction whose effect an instruction has: 0xCB as the primary table lists it stands for the secondary
instruction (R275). -/
def effKind (i : Instr) : Kind :=
  match i.kind with
  | .cbPrefix op2 => (decodeInstr 0xCB op2 0).kind
  | k => k

/-- Whether an instruction puts a target in pc: a jump, call, return or restart, where it has a condition if that holds. -/
def takesTarget (f : Flags) : Kind → Bool
  | .jp _ | .jpHL | .jr _ | .call _ | .ret | .reti | .rst _ => true
  | .jpCond cc _ | .jrCond cc _ | .callCond cc _ | .retCond cc => cc.holds f
  | _ => false

/-- The addresses an instruction stores to, as its rule computes them, from the state it starts in. -/
def storedAt (s : State) : Kind → List Word
  | .ldHLReg _ | .ldHLImm _ | .ldHLPostA _ => [s.regs.hl]
  | .ldPairA .bc => [s.regs.bc]
  | .ldPairA .de => [s.regs.de]
  | .ldhImmA n => [0xFF00 + n.zeroExtend 16]
  | .ldhCA => [0xFF00 + s.regs.c.zeroExtend 16]
  | .ldAbsA nn => [nn]
  | .ldAbsSP nn => [nn, nn + 1]
  | .push _ | .call _ | .rst _ => [s.sp - 1, s.sp - 2]
  | .callCond cc _ => if cc.holds s.flags then [s.sp - 1, s.sp - 2] else []
  | .inc8 .atHL | .dec8 .atHL | .cbRotate _ .atHL | .bitReset _ .atHL | .bitSet _ .atHL => [s.regs.hl]
  | _ => []

/-- The registers a pair is made of. -/
def pairRegs : Pair → List Reg8
  | .bc => [.b, .c]
  | .de => [.d, .e]
  | .hl => [.h, .l]
  | .sp => []

/-- The destination registers of an instruction, HL of the post-stepping forms among them. -/
def destRegs : Kind → List Reg8
  | .ldRegReg dst _ | .ldRegImm dst _ | .ldRegHL dst => [dst]
  | .ldAPair _ | .ldhAImm _ | .ldhAC | .ldAAbs _ => [.a]
  | .ldAHLPost _ => [.a, .h, .l]
  | .ldHLPostA _ => [.h, .l]
  | .ldPairImm p _ | .incPair p | .decPair p => pairRegs p
  | .ldHLSPe _ | .addHL _ => [.h, .l]
  | .pop .bc => [.b, .c]
  | .pop .de => [.d, .e]
  | .pop .hl => [.h, .l]
  | .pop .af => [.a]
  | .alu .cp _ => []
  | .alu _ _ => [.a]
  | .inc8 (.reg r) | .dec8 (.reg r) => [r]
  | .daa | .cpl | .accRotate _ => [.a]
  | .cbRotate _ (.reg r) | .bitReset _ (.reg r) | .bitSet _ (.reg r) => [r]
  | _ => []

/-- Whether an instruction may write sp (R26). -/
def writesSp : Kind → Bool
  | .ldPairImm .sp _ | .incPair .sp | .decPair .sp => true
  | .ldSPHL | .addSPe _ | .push _ | .pop _ | .call _ | .callCond _ _ | .ret | .retCond _ | .reti | .rst _ => true
  | _ => false

/-- Whether an instruction writes fZ. -/
def writesZ : Kind → Bool
  | .alu _ _ | .inc8 _ | .dec8 _ | .daa | .addHL _ | .accRotate _ | .cbRotate _ _ | .bitTest _ _ => true
  | .ldHLSPe _ | .addSPe _ | .pop .af => true
  | _ => false

/-- Whether an instruction writes fC. -/
def writesC : Kind → Bool
  | .alu _ _ | .inc8 _ | .dec8 _ | .daa | .addHL _ | .accRotate _ | .cbRotate _ _ => true
  | .ldHLSPe _ | .addSPe _ | .pop .af | .scf | .ccf => true
  | _ => false

/-- Whether an instruction writes fN. -/
def writesN : Kind → Bool
  | .alu _ _ | .inc8 _ | .dec8 _ | .addHL _ | .accRotate _ | .cbRotate _ _ | .bitTest _ _ => true
  | .ldHLSPe _ | .addSPe _ | .pop .af | .cpl | .scf | .ccf => true
  | _ => false

/-- Whether an instruction writes fH. -/
def writesH : Kind → Bool
  | .alu _ _ | .inc8 _ | .dec8 _ | .daa | .addHL _ | .accRotate _ | .cbRotate _ _ | .bitTest _ _ => true
  | .ldHLSPe _ | .addSPe _ | .pop .af | .cpl | .scf | .ccf => true
  | _ => false

/-- A packed-BCD byte of a number below 100. -/
def bcd (n : Nat) : Byte := BitVec.ofNat 8 (16 * (n / 10) + n % 10)

/-- The same state without the two derived views (R38, R39). -/
def withoutViews (s : State) : State := { s with ppu := { s.ppu with tiles := [], objects := [] } }

/-- The same state with another table of cycle counts (R7, R395). -/
def withTable (t : CycleTable) (s : State) : State := { s with cfg := { s.cfg with cycles := t } }

/-- The PPU after `PPU.step` has been called with each count in turn (R307, "cumulative cycles"). -/
def fed (p : Ppu) (counts : List Nat) : Ppu := counts.foldl (fun q n => (q.step n).1) p

/-- A byte of plain RAM: external RAM, working RAM or high RAM (R66, R67, R72). -/
def PlainRam (a : Word) : Prop := (0xA000 ≤ a.toNat ∧ a.toNat ≤ 0xDFFF) ∨ (0xFF80 ≤ a.toNat ∧ a.toNat ≤ 0xFFFE)

end Sys2Proof.Claims

open Sys2Proof Sys2Proof.Machine Sys2Proof.Claims

/-- For words written out bit by bit from the opcode tables, at least one of every family, the decoder answers the
instruction the table gives for it and the bytes that follow. Rests on what the spec marks as general knowledge (log
entry 16). The model's own in it: the constructor illegal (log entry 22). (from R102, R103, R108, R109, R110) -/
def Obligations.SampleWordsDecode : Prop :=
  decode [0b01000111] = .ok (.ld_b_a, []) ∧                            -- x=01 y=000 z=111
  decode [0b01101110, 0x77] = .ok (.ld_l_atHL, [0x77]) ∧               -- x=01 y=101 z=110
  decode [0b01110000] = .ok (.ld_atHL_b, []) ∧                         -- x=01 y=110 z=000
  decode [0b01110110] = .ok (.halt, []) ∧                              -- x=01 y=110 z=110
  decode [0b00001110, 0x13] = .ok (.ld_c_n 0x13, []) ∧                 -- x=00 y=001 z=110
  decode [0b00110010] = .ok (.ld_atHLdec_a, []) ∧                      -- x=00 p=11 q=0 z=010
  decode [0b11100000, 0x50] = .ok (.ldh_atN_a 0x50, []) ∧              -- x=11 y=100 z=000
  decode [0b11111010, 0x44, 0xFF] = .ok (.ld_a_atNN 0xFF44, []) ∧      -- x=11 y=111 z=010, low byte first
  decode [0b00110001, 0xFE, 0xFF] = .ok (.ld_sp_nn 0xFFFE, []) ∧       -- x=00 p=11 q=0 z=001
  decode [0b00001000, 0x00, 0xC1] = .ok (.ld_atNN_sp 0xC100, []) ∧     -- x=00 y=001 z=000
  decode [0b11110101] = .ok (.push_af, []) ∧                           -- x=11 p=11 q=0 z=101
  decode [0b11100001] = .ok (.pop_hl, []) ∧                            -- x=11 p=10 q=0 z=001
  decode [0b11111000, 0x08] = .ok (.ld_hl_spE 0x08, []) ∧              -- x=11 y=111 z=000
  decode [0b10011110] = .ok (.sbc_a_atHL, []) ∧                        -- x=10 y=011 z=110
  decode [0b11111110, 0x40] = .ok (.cp_n 0x40, []) ∧                   -- x=11 y=111 z=110
  decode [0b00111100] = .ok (.inc_a, []) ∧                             -- 0x3C, GBE's own example
  decode [0b00100111] = .ok (.daa, []) ∧                               -- x=00 y=100 z=111
  decode [0b00101001] = .ok (.add_hl_hl, []) ∧                         -- x=00 p=10 q=1 z=001
  decode [0b00011111] = .ok (.rra, []) ∧                               -- x=00 y=011 z=111
  decode [0xCB, 0b00110111] = .ok (.swap_a, []) ∧                      -- x=00 y=110 z=111
  decode [0xCB, 0b01111100] = .ok (.bit_7_h, []) ∧                     -- x=01 y=111 z=100
  decode [0xCB, 0xCB] = .ok (.set_1_e, []) ∧                           -- the byte 0xCB itself as op2
  decode [0b11000011, 0x00, 0x80] = .ok (.jp_nn 0x8000, []) ∧          -- 0xC3, GBE's own example
  decode [0b00100000, 0xFB] = .ok (.jr_nz_e 0xFB, []) ∧                -- x=00 y=100 z=000
  decode [0b11011100, 0x34, 0x12] = .ok (.call_c_nn 0x1234, []) ∧      -- x=11 y=011 z=100
  decode [0b11011001] = .ok (.reti, []) ∧                              -- x=11 p=01 q=1 z=001
  decode [0b11101111] = .ok (.rst_28, []) ∧                            -- x=11 y=101 z=111
  decode [0b00010000, 0x00] = .ok (.stop 0x00, []) ∧                   -- x=00 y=010 z=000
  decode [0b11111011] = .ok (.ei, []) ∧                                -- x=11 y=111 z=011
  decode [0b11010011] = .ok (.illegal 0xD3, [])                        -- unmapped

/-- For every well-formed instruction, with every value of its immediates, and any bytes after it, decoding the bytes of
its encoding answers exactly that instruction and leaves exactly the bytes after it. Rests on what the spec marks as
general knowledge (log entry 16). The model's own in it: the constructor cbPrefix (log entry 10), the constructor
illegal (log entry 22). (from R100, R101, R102, R103, R104, R105, R106, R107, R108, R110) -/
def Obligations.DecodeEncodeRoundTrip : Prop :=
  ∀ i : Instr, i.wf = true → ∀ rest : List Byte, decode (encode i ++ rest) = .ok (i, rest)

/-- If decoding a list of bytes answers an instruction and a remainder, then the instruction is well-formed and the list
is the instruction's encoding followed by the remainder; so no two byte sequences mean one instruction and the marker
of the prefix byte is never an answer. Rests on what the spec marks as general knowledge (log entry 16). The model's
own in it: the constructor cbPrefix (log entry 10), the constructor illegal (log entry 22). (from R100, R109, R110, R111, R113) -/
def Obligations.EncodeDecodeRoundTrip : Prop :=
  ∀ (bytes : List Byte) (i : Instr) (rest : List Byte),
    decode bytes = .ok (i, rest) → i.wf = true ∧ bytes = encode i ++ rest

/-- Any three bytes decode to an instruction, the constructor illegal where the first is an unmapped byte; it is 1, 2 or 3
bytes long; instructions with the same first byte have the same length whatever follows it; after the prefix byte 0xCB
the length is 2. The first byte is the one at pc. Where executing an instruction latches no fault and is no jump,
call, return or restart that is taken, pc has advanced by that length modulo 65536, whatever the state, HALT included.
Rests on what the spec marks as its own decisions D1, D10, D14 and as general knowledge (log entry 16). The model's
own in it: the constructor cbPrefix (log entry 10), the constructor illegal (log entry 22). (from R100, R110, R111, R112, R276, R250, R271) -/
def Obligations.LengthIsFixedByTheOpcode : Prop :=
  (∀ b0 b1 b2 c1 c2 : Byte,
    (∃ i rest, decode [b0, b1, b2] = .ok (i, rest)) ∧
    1 ≤ (encode (decodeInstr b0 b1 b2)).length ∧ (encode (decodeInstr b0 b1 b2)).length ≤ 3 ∧
    (encode (decodeInstr b0 b1 b2)).length = (encode (decodeInstr b0 c1 c2)).length ∧
    (b0 = 0xCB → (encode (decodeInstr b0 b1 b2)).length = 2)) ∧
  (∀ s : State, ∃ b1 b2 : Byte, (fetch s).1 = decodeInstr (s.peek s.pc) b1 b2) ∧
  (∀ (i : Instr) (s t : State), exec i s = .next t → t.fault = none → takesTarget s.flags (effKind i) = false →
    t.pc = s.pc + BitVec.ofNat 16 (encode i).length)

/-- A primary opcode decodes to an illegal instruction exactly if it is one of the eleven unmapped bytes. Executing it
sets the fault latch to IllegalOpcode with the pc and the byte and changes nothing else, pc included; no cycles are
reported. A step that fetches one answers that state and nothing more: no flip, no PPU step, no merge. (Constructor:
illegal.) Rests on what the spec marks as its own decisions D1, D21 and as general knowledge (log entry 16). The
model's own in it: the record of port accesses and the free value read from them (log entry 1), the list of ExtIrq
inputs (log entry 2), the field for the report (log entry 3), a fatal error as a next state (log entry 7), the
constructor illegal (log entry 22). (from R112, R276, R344) -/
def Obligations.UnmappedOpcodesAreFatal : Prop :=
  (∀ op b1 b2 : Byte, (∃ op', decodeInstr op b1 b2 = .illegal op') ↔
    op ∈ ([0xD3, 0xDB, 0xDD, 0xE3, 0xE4, 0xEB, 0xEC, 0xED, 0xF4, 0xFC, 0xFD] : List Byte)) ∧
  (∀ op b1 b2 op' : Byte, decodeInstr op b1 b2 = .illegal op' → op' = op) ∧
  (∀ (op : Byte) (s : State), exec (.illegal op) s = .next (latched (.illegalOpcode s.pc op) s)) ∧
  (∀ (s : State) (b1 b2 : Byte), Fetching s → (∃ op', decodeInstr (s.peek s.pc) b1 b2 = .illegal op') →
    step s = .next (latched (.illegalOpcode s.pc (s.peek s.pc)) ((atFetch s).noteRead s.pc)))

/-- For each of the 49 LD r,r' (constructors ld_b_b to ld_a_a without (HL)) and the 7 LD r,n (ld_b_n to ld_a_n) and every
state: the encoding is that of the rule, exec answers a next state, the destination register holds the source register
or the immediate, pc has advanced by the length, the cycles reported are the table's (4 and 8 by default), and every
other field keeps its value. Rests on what the spec marks as its own decisions D1, D23 and as general knowledge (log
entry 16). The model's own in it: what a cycle table is (log entry 9). (from R130, R131) -/
def Obligations.RegisterLoads : Prop :=
  (∀ (i : Instr) (y z : Reg8), i.kind = .ldRegReg y z →
    encode i = [opXYZ 0b01 y.code z.code] ∧
    ∀ s : State, exec i s = .next { s with
      regs := s.regs.set y (s.regs.get z), pc := s.pc + 1, cycles := s.count (.ldRegReg y z) true }) ∧
  (∀ (i : Instr) (y : Reg8) (n : Byte), i.kind = .ldRegImm y n →
    encode i = [opXYZ 0b00 y.code 0b110, n] ∧
    ∀ s : State, exec i s = .next { s with
      regs := s.regs.set y n, pc := s.pc + 2, cycles := s.count (.ldRegImm y n) true }) ∧
  (∀ y z, defaults.count (.ldRegReg y z) true = 4) ∧ (∀ y n, defaults.count (.ldRegImm y n) true = 8)

/-- For LD r,(HL), LD A,(BC), LD A,(DE), LD A,(HL+), LD A,(HL-), LDH A,(n), LD A,(C) and LD A,(nn) (constructors ld_b_atHL
to ld_a_atHL, ld_a_atBC, ld_a_atDE, ld_a_atHLinc, ld_a_atHLdec, ldh_a_atN, ld_a_atC, ld_a_atNN) and every state: the
encoding is that of the rule, exec answers a next state, the register holds the byte a read of the address gives, read
with the old HL, HL is stepped in the two post-stepping forms, pc advances by the length, the default cycles are those
of the rule, and every other field keeps its value but for the external port's record of a read that goes to it. Rests
on what the spec marks as its own decisions D1, D10, D23 and as general knowledge (log entry 16). The model's own in
it: the record of port accesses and the free value read from them (log entry 1), what a cycle table is (log entry 9). (from R132, R135, R136, R139, R140, R144, R146, R148) -/
def Obligations.LoadsFromMemory : Prop :=
  (∀ (i : Instr) (y : Reg8), i.kind = .ldRegHL y →
    encode i = [opXYZ 0b01 y.code 0b110] ∧
    ∀ s : State, exec i s = .next { s.noteRead s.regs.hl with
      regs := s.regs.set y (s.peek s.regs.hl), pc := s.pc + 1, cycles := s.count (.ldRegHL y) true }) ∧
  (∀ s : State, exec .ld_a_atBC s = .next { s.noteRead s.regs.bc with
      regs := { s.regs with a := s.peek s.regs.bc }, pc := s.pc + 1, cycles := s.count (.ldAPair .bc) true }) ∧
  (∀ s : State, exec .ld_a_atDE s = .next { s.noteRead s.regs.de with
      regs := { s.regs with a := s.peek s.regs.de }, pc := s.pc + 1, cycles := s.count (.ldAPair .de) true }) ∧
  (∀ s : State, exec .ld_a_atHLinc s = .next { s.noteRead s.regs.hl with
      regs := { s.regs with a := s.peek s.regs.hl, h := hiByte (s.regs.hl + 1), l := loByte (s.regs.hl + 1) }
      pc := s.pc + 1, cycles := s.count (.ldAHLPost .inc) true }) ∧
  (∀ s : State, exec .ld_a_atHLdec s = .next { s.noteRead s.regs.hl with
      regs := { s.regs with a := s.peek s.regs.hl, h := hiByte (s.regs.hl - 1), l := loByte (s.regs.hl - 1) }
      pc := s.pc + 1, cycles := s.count (.ldAHLPost .dec) true }) ∧
  (∀ (n : Byte) (s : State), exec (.ldh_a_atN n) s = .next { s.noteRead (0xFF00 + n.zeroExtend 16) with
      regs := { s.regs with a := s.peek (0xFF00 + n.zeroExtend 16) }, pc := s.pc + 2, cycles := s.count (.ldhAImm n) true }) ∧
  (∀ s : State, exec .ld_a_atC s = .next { s.noteRead (0xFF00 + s.regs.c.zeroExtend 16) with
      regs := { s.regs with a := s.peek (0xFF00 + s.regs.c.zeroExtend 16) }
      pc := s.pc + 1, cycles := s.count .ldhAC true }) ∧
  (∀ (nn : Word) (s : State), exec (.ld_a_atNN nn) s = .next { s.noteRead nn with
      regs := { s.regs with a := s.peek nn }, pc := s.pc + 3, cycles := s.count (.ldAAbs nn) true }) ∧
  encode .ld_a_atBC = [0x0A] ∧ encode .ld_a_atDE = [0x1A] ∧ encode .ld_a_atHLinc = [0x2A] ∧
  encode .ld_a_atHLdec = [0x3A] ∧ (∀ n, encode (.ldh_a_atN n) = [0xF0, n]) ∧ encode .ld_a_atC = [0xF2] ∧
  (∀ nn, encode (.ld_a_atNN nn) = [0xFA, loByte nn, hiByte nn]) ∧
  (∀ y, defaults.count (.ldRegHL y) true = 8) ∧ (∀ p, defaults.count (.ldAPair p) true = 8) ∧
  (∀ k, defaults.count (.ldAHLPost k) true = 8) ∧ (∀ n, defaults.count (.ldhAImm n) true = 12) ∧ defaults.count .ldhAC true = 8 ∧
  (∀ nn, defaults.count (.ldAAbs nn) true = 16)

/-- For LD (HL),r, LD (HL),n, LD (BC),A, LD (DE),A, LD (HL+),A, LD (HL-),A, LDH (n),A, LD (C),A and LD (nn),A
(constructors ld_atHL_b to ld_atHL_a, ld_atHL_n, ld_atBC_a, ld_atDE_a, ld_atHLinc_a, ld_atHLdec_a, ldh_atN_a,
ld_atC_a, ld_atNN_a) and every state: where the address can be written, exec answers the state that the bus write of
the byte leaves, with pc, the cycles and for the post-stepping forms HL updated; where the address is unused, or ROM
under the fault policy, exec answers the old state with the fault latch set. The two high-memory forms are never
fatal. Encodings and default cycles are those of the rules. Rests on what the spec marks as its own decisions D1, D10,
D18, D21, D23 and as general knowledge (log entry 16). The model's own in it: the field for the report (log entry 3),
a fatal error as a next state (log entry 7), what a cycle table is (log entry 9). (from R133, R134, R137, R138, R141, R142, R143, R145, R147, R85) -/
def Obligations.StoresOfOneByte : Prop :=
  (∀ (i : Instr) (z : Reg8), i.kind = .ldHLReg z →
    encode i = [opXYZ 0b01 0b110 z.code] ∧
    ∀ s : State, StoresByte i s s s.regs.hl (s.regs.get z) fun u =>
      { u with pc := s.pc + 1, cycles := s.count (.ldHLReg z) true }) ∧
  (∀ (n : Byte) (s : State), StoresByte (.ld_atHL_n n) s s s.regs.hl n fun u =>
      { u with pc := s.pc + 2, cycles := s.count (.ldHLImm n) true }) ∧
  (∀ s : State, StoresByte .ld_atBC_a s s s.regs.bc s.regs.a fun u =>
      { u with pc := s.pc + 1, cycles := s.count (.ldPairA .bc) true }) ∧
  (∀ s : State, StoresByte .ld_atDE_a s s s.regs.de s.regs.a fun u =>
      { u with pc := s.pc + 1, cycles := s.count (.ldPairA .de) true }) ∧
  (∀ s : State, StoresByte .ld_atHLinc_a s s s.regs.hl s.regs.a fun u =>
      { u with regs := s.regs.setHL (s.regs.hl + 1), pc := s.pc + 1, cycles := s.count (.ldHLPostA .inc) true }) ∧
  (∀ s : State, StoresByte .ld_atHLdec_a s s s.regs.hl s.regs.a fun u =>
      { u with regs := s.regs.setHL (s.regs.hl - 1), pc := s.pc + 1, cycles := s.count (.ldHLPostA .dec) true }) ∧
  (∀ (n : Byte) (s : State), ∃ u, writeByte (0xFF00 + n.zeroExtend 16) s.regs.a s = .done u ∧
    exec (.ldh_atN_a n) s = .next { u with pc := s.pc + 2, cycles := s.count (.ldhImmA n) true }) ∧
  (∀ s : State, ∃ u, writeByte (0xFF00 + s.regs.c.zeroExtend 16) s.regs.a s = .done u ∧
    exec .ld_atC_a s = .next { u with pc := s.pc + 1, cycles := s.count .ldhCA true }) ∧
  (∀ (nn : Word) (s : State), StoresByte (.ld_atNN_a nn) s s nn s.regs.a fun u =>
      { u with pc := s.pc + 3, cycles := s.count (.ldAbsA nn) true }) ∧
  (∀ n, encode (.ld_atHL_n n) = [0x36, n]) ∧ encode .ld_atBC_a = [0x02] ∧ encode .ld_atDE_a = [0x12] ∧
  encode .ld_atHLinc_a = [0x22] ∧ encode .ld_atHLdec_a = [0x32] ∧ (∀ n, encode (.ldh_atN_a n) = [0xE0, n]) ∧
  encode .ld_atC_a = [0xE2] ∧ (∀ nn, encode (.ld_atNN_a nn) = [0xEA, loByte nn, hiByte nn]) ∧
  (∀ z, defaults.count (.ldHLReg z) true = 8) ∧ (∀ n, defaults.count (.ldHLImm n) true = 12) ∧
  (∀ p, defaults.count (.ldPairA p) true = 8) ∧ (∀ k, defaults.count (.ldHLPostA k) true = 8) ∧
  (∀ n, defaults.count (.ldhImmA n) true = 12) ∧ defaults.count .ldhCA true = 8 ∧ (∀ nn, defaults.count (.ldAbsA nn) true = 16)

/-- For LD BC,nn, LD DE,nn, LD HL,nn, LD SP,nn and LD SP,HL (constructors ld_bc_nn, ld_de_nn, ld_hl_nn, ld_sp_nn,
ld_sp_hl) and every state: exec answers a next state in which the pair's two registers hold the high and the low byte
of the immediate (or sp holds the immediate, or HL), pc advances by 3 (or 1), the default cycles are 12 (or 8) and
every other field keeps its value; the encodings are those of the rules. Rests on what the spec marks as its own
decisions D1, D23 and as general knowledge (log entry 16). The model's own in it: what a cycle table is (log entry 9). (from R160, R162) -/
def Obligations.SixteenBitLoads : Prop :=
  (∀ (nn : Word) (s : State), exec (.ld_bc_nn nn) s = .next { s with
      regs := { s.regs with b := hiByte nn, c := loByte nn }, pc := s.pc + 3, cycles := s.count (.ldPairImm .bc nn) true }) ∧
  (∀ (nn : Word) (s : State), exec (.ld_de_nn nn) s = .next { s with
      regs := { s.regs with d := hiByte nn, e := loByte nn }, pc := s.pc + 3, cycles := s.count (.ldPairImm .de nn) true }) ∧
  (∀ (nn : Word) (s : State), exec (.ld_hl_nn nn) s = .next { s with
      regs := { s.regs with h := hiByte nn, l := loByte nn }, pc := s.pc + 3, cycles := s.count (.ldPairImm .hl nn) true }) ∧
  (∀ (nn : Word) (s : State), exec (.ld_sp_nn nn) s = .next { s with
      sp := nn, pc := s.pc + 3, cycles := s.count (.ldPairImm .sp nn) true }) ∧
  (∀ s : State, exec .ld_sp_hl s = .next { s with
      sp := joinBytes s.regs.h s.regs.l, pc := s.pc + 1, cycles := s.count .ldSPHL true }) ∧
  (∀ nn, encode (.ld_bc_nn nn) = [0x01, loByte nn, hiByte nn]) ∧ (∀ nn, encode (.ld_de_nn nn) = [0x11, loByte nn, hiByte nn]) ∧
  (∀ nn, encode (.ld_hl_nn nn) = [0x21, loByte nn, hiByte nn]) ∧ (∀ nn, encode (.ld_sp_nn nn) = [0x31, loByte nn, hiByte nn]) ∧
  encode .ld_sp_hl = [0xF9] ∧ (∀ p nn, defaults.count (.ldPairImm p nn) true = 12) ∧ defaults.count .ldSPHL true = 8

/-- For LD (nn),SP (constructor ld_atNN_sp), every address and every state: the low byte of sp is written at nn and then
the high byte at nn+1 (addresses wrap), pc advances by 3 and 20 cycles are reported by default; sp is not changed. If
the first write is fatal only the latch is set; if the second is, the first byte has been stored and the latch is set.
Rests on what the spec marks as its own decisions D10, D18, D20, D21, D23 and as general knowledge (log entry 16). The
model's own in it: the field for the report (log entry 3), a fatal error as a next state (log entry 7), what a cycle
table is (log entry 9), what stays after a fatal error (log entry 14). (from R161, R76, R85) -/
def Obligations.StoreStackPointer : Prop :=
  (∀ (nn : Word) (s : State), StoresTwo (exec (.ld_atNN_sp nn) s) s nn (loByte s.sp) (nn + 1) (hiByte s.sp) fun w =>
    { w with sp := s.sp, pc := s.pc + 3, cycles := s.count (.ldAbsSP nn) true }) ∧
  (∀ nn, encode (.ld_atNN_sp nn) = [0x08, loByte nn, hiByte nn]) ∧ (∀ nn, defaults.count (.ldAbsSP nn) true = 20)

/-- For ADD SP,e and LD HL,SP+e (constructors add_sp_e, ld_hl_spE), every immediate and every state: the sum of sp and the
sign-extended immediate goes to sp, or to HL with sp unchanged; fZ and fN are false, fH is the carry out of bit 3 and
fC the carry out of bit 7 of the unsigned addition of sp's low byte and the immediate byte; pc advances by 2; 16 and
12 cycles by default; nothing else changes. Rests on what the spec marks as its own decisions D6, D23 and as general
knowledge (log entry 16). The model's own in it: what a cycle table is (log entry 9). (from R163, R167, R168) -/
def Obligations.StackPointerAdditions : Prop :=
  (∀ (e : Byte) (s : State),
    let fH := decide (s.sp.toNat % 0x10 + e.toNat % 0x10 > 0x0F)
    let fC := decide (s.sp.toNat % 0x100 + e.toNat > 0xFF)
    exec (.add_sp_e e) s = .next { s with
      sp := s.sp + e.signExtend 16, flags := ⟨false, false, fH, fC⟩, pc := s.pc + 2, cycles := s.count (.addSPe e) true } ∧
    exec (.ld_hl_spE e) s = .next { s with
      regs := s.regs.setHL (s.sp + e.signExtend 16), flags := ⟨false, false, fH, fC⟩
      pc := s.pc + 2, cycles := s.count (.ldHLSPe e) true }) ∧
  (∀ e, encode (.add_sp_e e) = [0xE8, e]) ∧ (∀ e, encode (.ld_hl_spE e) = [0xF8, e]) ∧
  (∀ e, defaults.count (.addSPe e) true = 16) ∧ (∀ e, defaults.count (.ldHLSPe e) true = 12)

/-- For PUSH BC, DE, HL and AF (constructors push_bc, push_de, push_hl, push_af; AF is A and the packed flags, low nibble
zero) and every state: the high byte is written at sp-1, then the low byte at sp-2, then sp has dropped by 2, pc has
advanced by 1 and 16 cycles are reported by default. If a write is fatal sp and pc keep their values and a byte
already stored stays. Rests on what the spec marks as its own decisions D1, D10, D18, D21, D23 and as general
knowledge (log entry 16). The model's own in it: the field for the report (log entry 3), a fatal error as a next state
(log entry 7), what a cycle table is (log entry 9), what stays after a fatal error (log entry 14). (from R164, R85) -/
def Obligations.PushPair : Prop :=
  (∀ (i : Instr) (q : StackPair), i.kind = .push q →
    encode i = [opXPQZ 0b11 q.code 0 0b101] ∧
    ∀ s : State,
      let v := match q with
        | .bc => joinBytes s.regs.b s.regs.c
        | .de => joinBytes s.regs.d s.regs.e
        | .hl => joinBytes s.regs.h s.regs.l
        | .af => joinBytes s.regs.a (BitVec.ofBool s.flags.z ++ BitVec.ofBool s.flags.n ++ BitVec.ofBool s.flags.h ++
            BitVec.ofBool s.flags.c ++ 0#4)
      StoresTwo (exec i s) s (s.sp - 1) (hiByte v) (s.sp - 2) (loByte v) fun w =>
        { w with sp := s.sp - 2, pc := s.pc + 1, cycles := s.count (.push q) true }) ∧
  (∀ q, defaults.count (.push q) true = 16)

/-- For POP BC, DE, HL and AF (constructors pop_bc, pop_de, pop_hl, pop_af) and every state: exec answers a next state in
which the pair holds the two bytes read at sp (low) and then at sp+1 (high), sp has risen by 2, pc has advanced by 1
and 12 cycles are reported by default; POP AF sets A to the high byte and fZ, fN, fH, fC to bits 7 to 4 of the low
byte, its low nibble being discarded. Nothing else changes but what the external port records. Reading AF gives 256
times A plus 128, 64, 32 and 16 for fZ, fN, fH and fC; after writing a word to AF the flags are its bits 7 to 4 and
reading gives the word with its low nibble cleared. Rests on what the spec marks as its own decisions D1, D10, D23 and
as general knowledge (log entry 16). The model's own in it: the record of port accesses and the free value read from
them (log entry 1), what a cycle table is (log entry 9). (from R22, R23, R165, R166) -/
def Obligations.PopPair : Prop :=
  (∀ s : State,
    let r := s.noteRead s.sp
    let lo := s.peek s.sp
    let hi := r.peek (s.sp + 1)
    let t := { r.noteRead (s.sp + 1) with sp := s.sp + 2, pc := s.pc + 1 }
    exec .pop_bc s = .next { t with regs := { s.regs with b := hi, c := lo }, cycles := s.count (.pop .bc) true } ∧
    exec .pop_de s = .next { t with regs := { s.regs with d := hi, e := lo }, cycles := s.count (.pop .de) true } ∧
    exec .pop_hl s = .next { t with regs := { s.regs with h := hi, l := lo }, cycles := s.count (.pop .hl) true } ∧
    exec .pop_af s = .next { t with
      regs := { s.regs with a := hi }, flags := ⟨lo.getLsbD 7, lo.getLsbD 6, lo.getLsbD 5, lo.getLsbD 4⟩
      cycles := s.count (.pop .af) true }) ∧
  encode .pop_bc = [0xC1] ∧ encode .pop_de = [0xD1] ∧ encode .pop_hl = [0xE1] ∧ encode .pop_af = [0xF1] ∧
  (∀ q, defaults.count (.pop q) true = 12) ∧
  (∀ s : State,
    s.getAF.toNat = 256 * s.regs.a.toNat + (if s.flags.z then 128 else 0) + (if s.flags.n then 64 else 0) +
      (if s.flags.h then 32 else 0) + (if s.flags.c then 16 else 0)) ∧
  (∀ (s : State) (v : Word),
    s.setAF v = { s with
      regs := { s.regs with a := v.extractLsb' 8 8 }
      flags := ⟨v.getLsbD 7, v.getLsbD 6, v.getLsbD 5, v.getLsbD 4⟩ } ∧
    (s.setAF v).getAF = v &&& 0xFFF0)

/-- For each of the four pairs: from a state whose storage is in canonical form and whose two stack bytes are plain RAM,
PUSH then POP of the pair both answer next states, and afterwards the seven registers, the four flags and sp are as
before. Rests on what the spec marks as its own decision D10 (log entry 16). The model's own in it: storage as
canonical lists (log entry 5), the stored views (log entry 15). (from R24, R77, R164, R165, R166) -/
def Obligations.PushThenPopRestores : Prop :=
  ∀ (i j : Instr) (q : StackPair) (s : State), i.kind = .push q → j.kind = .pop q → s.storageWf = true →
    PlainRam (s.sp - 1) → PlainRam (s.sp - 2) →
    ∃ t u, exec i s = .next t ∧ exec j t = .next u ∧ t.sp = s.sp - 2 ∧ u.sp = s.sp ∧ u.regs = s.regs ∧ u.flags = s.flags

/-- For each of the eight accumulator operations in each of its forms (register, (HL), immediate: constructors add_a_b to
cp_a and add_a_n to cp_n) and every state: the encoding is that of the rule, exec answers a next state with some new A
and some new flags (their values are the subject of AddAndAddWithCarry, SubtractAndCompare and LogicForcesHalfCarry),
pc advances by 1 or 2, the default cycles are 4, 8 and 8, and nothing changes but A, the flags, pc, the report and the
external port's record of a read of (HL). Rests on what the spec marks as its own decisions D1, D23 and as general
knowledge (log entry 16). The model's own in it: the record of port accesses and the free value read from them (log
entry 1), what a cycle table is (log entry 9). (from R180) -/
def Obligations.AccumulatorForms : Prop :=
  (∀ (i : Instr) (k : AluOp) (v : Src8), i.kind = .alu k v →
    encode i = aluBytes k.code v ∧ ∀ s : State, ∃ a f, exec i s = aluAnswer k s v a f) ∧
  (∀ k r, defaults.count (.alu k (.reg r)) true = 4) ∧ (∀ k, defaults.count (.alu k .atHL) true = 8) ∧
  (∀ k n, defaults.count (.alu k (.imm n)) true = 8) ∧
  ([.add, .adc, .sub, .sbc, .and, .xor, .or, .cp] : List AluOp).map AluOp.code = [0, 1, 2, 3, 4, 5, 6, 7]

/-- For ADD A,s and ADC A,s in every operand form (constructors add_a_b to add_a_a, add_a_n, adc_a_b to adc_a_a, adc_a_n)
and every state exec answers the next state in which A is the sum modulo 256, fZ says the result is zero, fN is false,
fH that the low nibbles (and the carry in, for ADC) sum to more than 15, and fC that the whole sum exceeds 255; the
encodings are those of the rules. Rests on what the spec marks as its own decisions D1, D4 and as general knowledge
(log entry 16). The model's own in it: the record of port accesses and the free value read from them (log entry 1),
what a cycle table is (log entry 9). (from R181, R182) -/
def Obligations.AddAndAddWithCarry : Prop :=
  AluIs .add (fun a x _ => BitVec.ofNat 8 ((a + x) % 256))
    (fun a x _ => ⟨decide ((a + x) % 256 = 0), false, decide (a % 16 + x % 16 > 15), decide (a + x > 255)⟩) ∧
  AluIs .adc (fun a x c => BitVec.ofNat 8 ((a + x + c) % 256))
    (fun a x c => ⟨decide ((a + x + c) % 256 = 0), false, decide (a % 16 + x % 16 + c > 15), decide (a + x + c > 255)⟩) ∧
  (∀ (i : Instr) (v : Src8), (i.kind = .alu .add v → encode i = aluBytes 0 v) ∧ (i.kind = .alu .adc v → encode i = aluBytes 1 v))

/-- For SUB s, SBC A,s and CP s in every operand form (constructors sub_b to sub_a, sub_n, sbc_a_b to sbc_a_a, sbc_a_n,
cp_b to cp_a, cp_n) and every state exec answers the next state in which A is the difference modulo 256 (unchanged for
CP), fZ says the difference is zero, fN is true, fH that the low nibble of A is less than that of the operand (plus
the carry in, for SBC) and fC the same of the whole bytes; the encodings are those of the rules. Rests on what the
spec marks as its own decisions D1, D3, D4 and as general knowledge (log entry 16). The model's own in it: the record
of port accesses and the free value read from them (log entry 1), what a cycle table is (log entry 9). (from R183, R184, R188) -/
def Obligations.SubtractAndCompare : Prop :=
  AluIs .sub (fun a x _ => BitVec.ofNat 8 ((a + 256 - x) % 256))
    (fun a x _ => ⟨decide (a = x), true, decide (a % 16 < x % 16), decide (a < x)⟩) ∧
  AluIs .sbc (fun a x c => BitVec.ofNat 8 ((a + 512 - x - c) % 256))
    (fun a x c => ⟨decide ((a + 512 - x - c) % 256 = 0), true, decide (a % 16 < x % 16 + c), decide (a < x + c)⟩) ∧
  AluIs .cp (fun a _ _ => BitVec.ofNat 8 a)
    (fun a x _ => ⟨decide (a = x), true, decide (a % 16 < x % 16), decide (a < x)⟩) ∧
  (∀ (i : Instr) (v : Src8), (i.kind = .alu .sub v → encode i = aluBytes 2 v) ∧
    (i.kind = .alu .sbc v → encode i = aluBytes 3 v) ∧ (i.kind = .alu .cp v → encode i = aluBytes 7 v))

/-- For AND s, XOR s and OR s in every operand form (constructors and_b to and_a, and_n, xor_b to xor_a, xor_n, or_b to
or_a, or_n) and every state exec answers the next state in which A is the bitwise result, fZ says it is zero, fN is
false, fH is true (the documented deviation) and fC is false; the encodings are those of the rules. Rests on what the
spec marks as its own decisions D1, D2 and as general knowledge (log entry 16). The model's own in it: the record of
port accesses and the free value read from them (log entry 1), what a cycle table is (log entry 9). (from R185, R186, R187) -/
def Obligations.LogicForcesHalfCarry : Prop :=
  AluIs .and (fun a x _ => BitVec.ofNat 8 (a &&& x)) (fun a x _ => ⟨decide (a &&& x = 0), false, true, false⟩) ∧
  AluIs .xor (fun a x _ => BitVec.ofNat 8 (a ^^^ x)) (fun a x _ => ⟨decide (a ^^^ x = 0), false, true, false⟩) ∧
  AluIs .or (fun a x _ => BitVec.ofNat 8 (a ||| x)) (fun a x _ => ⟨decide (a ||| x = 0), false, true, false⟩) ∧
  (∀ (i : Instr) (v : Src8), (i.kind = .alu .and v → encode i = aluBytes 4 v) ∧
    (i.kind = .alu .xor v → encode i = aluBytes 5 v) ∧ (i.kind = .alu .or v → encode i = aluBytes 6 v))

/-- For INC r, INC (HL), DEC r and DEC (HL) (constructors inc_b to inc_a with inc_atHL, dec_b to dec_a with dec_atHL) and
every state: the operand becomes its old value plus or minus 1 modulo 256; fZ says the result is zero; fN is false for
INC and true for DEC; fH says the low nibble was 15 (INC) or 0 (DEC); fC says the byte wrapped; pc advances by 1; 4
cycles for a register and 12 for (HL) by default. In the (HL) forms a fatal write-back sets the latch and nothing
else. Encodings are those of the rules. Rests on what the spec marks as its own decisions D1, D3, D18, D21, D23 and as
general knowledge (log entry 16). The model's own in it: the record of port accesses and the free value read from them
(log entry 1), the field for the report (log entry 3), a fatal error as a next state (log entry 7), what a cycle table
is (log entry 9). (from R189, R190, R191, R192, R85) -/
def Obligations.IncrementDecrementByte : Prop :=
  (∀ (i : Instr) (d : Loc8), i.kind = .inc8 d →
    encode i = [opXYZ 0b00 d.code 0b100] ∧
    ∀ s : State,
      let o := (locByte s d).toNat
      LocIs i d s (BitVec.ofNat 8 ((o + 1) % 256))
        ⟨decide ((o + 1) % 256 = 0), false, decide (o % 16 = 15), decide (o = 255)⟩ 1
        (s.count (.inc8 d) true)) ∧
  (∀ (i : Instr) (d : Loc8), i.kind = .dec8 d →
    encode i = [opXYZ 0b00 d.code 0b101] ∧
    ∀ s : State,
      let o := (locByte s d).toNat
      LocIs i d s (BitVec.ofNat 8 ((o + 255) % 256))
        ⟨decide (o = 1), true, decide (o % 16 = 0), decide (o = 0)⟩ 1
        (s.count (.dec8 d) true)) ∧
  (∀ r, defaults.count (.inc8 (.reg r)) true = 4 ∧ defaults.count (.dec8 (.reg r)) true = 4) ∧
  defaults.count (.inc8 .atHL) true = 12 ∧ defaults.count (.dec8 .atHL) true = 12

/-- For DAA (constructor daa) and every state exec answers the next state in which A has been corrected by 0x06 and 0x60
as the rule selects them, by addition if fN is false and by subtraction if it is true; fZ says the result is zero, fN
is unchanged, fH is false, fC is set when the high correction was selected in the add direction and unchanged in the
subtract direction; pc advances by 1, 4 cycles by default; nothing else changes. Rests on what the spec marks as its
own decisions D1, D8, D23 and as general knowledge (log entry 16). The model's own in it: what a cycle table is (log
entry 9). (from R193) -/
def Obligations.DecimalAdjust : Prop :=
  (∀ s : State,
    let a := s.regs.a.toNat
    let low := if s.flags.n then s.flags.h else s.flags.h || decide (a % 16 > 9)
    let high := if s.flags.n then s.flags.c else s.flags.c || decide (a > 0x99)
    let adj := (if low then 0x06 else 0x00) + (if high then 0x60 else 0x00)
    let r := (if s.flags.n then a + 256 - adj else a + adj) % 256
    exec .daa s = .next { s with
      regs := { s.regs with a := BitVec.ofNat 8 r }
      flags := ⟨decide (r = 0), s.flags.n, false, if s.flags.n then s.flags.c else high⟩
      pc := s.pc + 1, cycles := s.count .daa true }) ∧
  encode .daa = [0x27] ∧ defaults.count .daa true = 4

/-- For numbers x and y below 100 held as packed BCD in A and B, in every state, ADD A,B followed by DAA answers next
states, leaves the packed BCD of (x+y) modulo 100 in A and sets the carry flag exactly if x+y is 100 or more. Rests on
what the spec marks as its own decisions D1, D8 and as general knowledge (log entry 16). (from R181, R193) -/
def Obligations.DecimalAdditionIsExact : Prop :=
  ∀ (x y : Nat) (s : State), x < 100 → y < 100 → s.regs.a = bcd x → s.regs.b = bcd y →
    ∃ t u, exec .add_a_b s = .next t ∧ exec .daa t = .next u ∧
      u.regs.a = bcd ((x + y) % 100) ∧ u.flags.c = decide (x + y ≥ 100)

/-- For CPL, SCF and CCF (constructors cpl, scf, ccf) and every state exec answers the next state with exactly the changes
the rules list: CPL A complemented, fN and fH true, fZ and fC unchanged; SCF fN and fH false, fC true, fZ unchanged;
CCF fN and fH false, fC inverted, fZ unchanged; pc advances by 1, 4 cycles by default. Rests on what the spec marks as
its own decisions D1, D23 and as general knowledge (log entry 16). The model's own in it: what a cycle table is (log
entry 9). (from R194, R195, R196) -/
def Obligations.ComplementAndCarryInstructions : Prop :=
  (∀ s : State,
    exec .cpl s = .next { s with
      regs := { s.regs with a := BitVec.ofNat 8 (255 - s.regs.a.toNat) }, flags := ⟨s.flags.z, true, true, s.flags.c⟩
      pc := s.pc + 1, cycles := s.count .cpl true } ∧
    exec .scf s = .next { s with
      flags := ⟨s.flags.z, false, false, true⟩, pc := s.pc + 1, cycles := s.count .scf true } ∧
    exec .ccf s = .next { s with
      flags := ⟨s.flags.z, false, false, !s.flags.c⟩, pc := s.pc + 1, cycles := s.count .ccf true }) ∧
  encode .cpl = [0x2F] ∧ encode .scf = [0x37] ∧ encode .ccf = [0x3F] ∧
  defaults.count .cpl true = 4 ∧ defaults.count .scf true = 4 ∧ defaults.count .ccf true = 4

/-- For ADD HL,rr, INC rr and DEC rr with rr BC, DE, HL, SP (constructors add_hl_bc to add_hl_sp, inc_bc to inc_sp, dec_bc
to dec_sp) and every state: ADD HL puts the sum modulo 65536 in HL, fZ says it is zero, fN is false, fH is the carry
out of bit 11 and fC out of bit 15; INC and DEC change the pair by 1 modulo 65536 and no flag; pc advances by 1, 8
cycles by default, nothing else changes; the encodings are those of the rules. Rests on what the spec marks as its own
decisions D1, D5, D23 and as general knowledge (log entry 16). The model's own in it: what a cycle table is (log entry
9). (from R210, R211, R212) -/
def Obligations.WordArithmetic : Prop :=
  (∀ (i : Instr) (p : Pair), i.kind = .addHL p →
    encode i = [opXPQZ 0b00 p.code 1 0b001] ∧
    ∀ s : State,
      let h := s.regs.hl.toNat
      let v := (s.pair p).toNat
      exec i s = .next { s with
        regs := s.regs.setHL (BitVec.ofNat 16 ((h + v) % 65536))
        flags := ⟨decide ((h + v) % 65536 = 0), false, decide (h % 0x1000 + v % 0x1000 > 0x0FFF), decide (h + v > 0xFFFF)⟩
        pc := s.pc + 1, cycles := s.count (.addHL p) true }) ∧
  (∀ (i : Instr) (p : Pair), i.kind = .incPair p →
    encode i = [opXPQZ 0b00 p.code 0 0b011] ∧
    ∀ s : State, exec i s = .next { s.setPair p (BitVec.ofNat 16 (((s.pair p).toNat + 1) % 65536)) with
      pc := s.pc + 1, cycles := s.count (.incPair p) true }) ∧
  (∀ (i : Instr) (p : Pair), i.kind = .decPair p →
    encode i = [opXPQZ 0b00 p.code 1 0b011] ∧
    ∀ s : State, exec i s = .next { s.setPair p (BitVec.ofNat 16 (((s.pair p).toNat + 65535) % 65536)) with
      pc := s.pc + 1, cycles := s.count (.decPair p) true }) ∧
  (∀ p, defaults.count (.addHL p) true = 8 ∧ defaults.count (.incPair p) true = 8 ∧ defaults.count (.decPair p) true = 8)

/-- For RLCA, RRCA, RLA and RRA (constructors rlca, rrca, rla, rra) and every state exec answers the next state in which A
is rotated by one bit position (through the old carry for RLA and RRA), fZ, fN and fH are false even for a zero
result, fC is the bit that left; pc advances by 1, 4 cycles by default; nothing else changes. Rests on what the spec
marks as its own decisions D1, D7, D23 and as general knowledge (log entry 16). The model's own in it: what a cycle
table is (log entry 9). (from R220, R221, R222, R223) -/
def Obligations.AccumulatorRotates : Prop :=
  (∀ (i : Instr) (k : AccRot), i.kind = .accRotate k → ∀ s : State,
    let r := rotated (accGeneral k) s.regs.a.toNat (if s.flags.c then 1 else 0)
    exec i s = .next { s with
      regs := { s.regs with a := BitVec.ofNat 8 r }
      flags := ⟨false, false, false, rotatedOut (accGeneral k) s.regs.a.toNat⟩
      pc := s.pc + 1, cycles := s.count (.accRotate k) true }) ∧
  encode .rlca = [0x07] ∧ encode .rrca = [0x0F] ∧ encode .rla = [0x17] ∧ encode .rra = [0x1F] ∧ (∀ k, defaults.count (.accRotate k) true = 4)

/-- For RLC, RRC, RL, RR, SLA, SRA, SWAP and SRL on each register and on (HL) (constructors rlc_b to srl_a) and every
state: the operand becomes the rotated or shifted byte, fZ says it is zero, fN and fH are false, fC is the bit that
left (false for SWAP); pc advances by 2; 8 cycles for a register and 16 for (HL) by default; in the (HL) form a fatal
write-back sets the latch and nothing else. The encodings are those of the rules. Rests on what the spec marks as its
own decisions D1, D7, D18, D21, D23 and as general knowledge (log entry 16). The model's own in it: the record of port
accesses and the free value read from them (log entry 1), the field for the report (log entry 3), a fatal error as a
next state (log entry 7), what a cycle table is (log entry 9). (from R224, R225, R226, R227, R228, R229, R230, R231, R232, R85) -/
def Obligations.GeneralRotatesAndShifts : Prop :=
  (∀ (i : Instr) (k : CbRot) (d : Loc8), i.kind = .cbRotate k d →
    encode i = [0xCB, opXYZ 0b00 k.code d.code] ∧
    ∀ s : State,
      let v := (locByte s d).toNat
      let r := rotated k v (if s.flags.c then 1 else 0)
      LocIs i d s (BitVec.ofNat 8 r) ⟨decide (r = 0), false, false, rotatedOut k v⟩ 2
        (s.count (.cbRotate k d) true)) ∧
  ([.rlc, .rrc, .rl, .rr, .sla, .sra, .swap, .srl] : List CbRot).map CbRot.code = [0, 1, 2, 3, 4, 5, 6, 7] ∧
  (∀ k r, defaults.count (.cbRotate k (.reg r)) true = 8) ∧ (∀ k, defaults.count (.cbRotate k .atHL) true = 16)

/-- For BIT b,s, RES b,s and SET b,s on each register and on (HL) (constructors bit_0_b to set_7_a) and every state: BIT
sets fZ to whether the bit is 0, fN to false, fH to true, leaves fC and changes no operand; RES and SET change that
one bit of the operand and no flag; pc advances by 2; 8 cycles for a register, 12 for BIT b,(HL) and 16 for RES and
SET on (HL) by default; a fatal write-back sets the latch and nothing else. The encodings are those of the rules.
Rests on what the spec marks as its own decisions D1, D18, D21, D23 and as general knowledge (log entry 16). The
model's own in it: the record of port accesses and the free value read from them (log entry 1), the field for the
report (log entry 3), a fatal error as a next state (log entry 7), what a cycle table is (log entry 9). (from R224, R233, R234, R235, R85) -/
def Obligations.BitInstructions : Prop :=
  (∀ (i : Instr) (b : BitVec 3) (d : Loc8), i.kind = .bitTest b d →
    encode i = [0xCB, opXYZ 0b01 b d.code] ∧
    ∀ s : State, exec i s = .next { afterLoc s d with
      flags := ⟨!(locByte s d).getLsbD b.toNat, false, true, s.flags.c⟩, pc := s.pc + 2
      cycles := s.count (.bitTest b d) true }) ∧
  (∀ (i : Instr) (b : BitVec 3) (d : Loc8), i.kind = .bitReset b d →
    encode i = [0xCB, opXYZ 0b10 b d.code] ∧
    ∀ s : State, ∃ r : Byte, (∀ k : Nat, r.getLsbD k = ((locByte s d).getLsbD k && decide (k ≠ b.toNat))) ∧
      LocIs i d s r s.flags 2 (s.count (.bitReset b d) true)) ∧
  (∀ (i : Instr) (b : BitVec 3) (d : Loc8), i.kind = .bitSet b d →
    encode i = [0xCB, opXYZ 0b11 b d.code] ∧
    ∀ s : State, ∃ r : Byte, (∀ k : Nat, r.getLsbD k = ((locByte s d).getLsbD k || decide (k = b.toNat))) ∧
      LocIs i d s r s.flags 2 (s.count (.bitSet b d) true)) ∧
  (∀ b r, defaults.count (.bitTest b (.reg r)) true = 8 ∧ defaults.count (.bitReset b (.reg r)) true = 8 ∧
    defaults.count (.bitSet b (.reg r)) true = 8) ∧
  (∀ b, defaults.count (.bitTest b .atHL) true = 12 ∧ defaults.count (.bitReset b .atHL) true = 16 ∧
    defaults.count (.bitSet b .atHL) true = 16)

/-- For JP nn, JP cc,nn, JP HL, JR e and JR cc,e (constructors jp_nn, jp_nz_nn, jp_z_nn, jp_nc_nn, jp_c_nn, jp_hl, jr_e,
jr_nz_e, jr_z_e, jr_nc_e, jr_c_e) and every state exec answers the next state with pc at the target if the condition
holds on fZ or fC and past the instruction otherwise, the relative target being pc+2 plus the sign-extended
displacement modulo 65536; the cycles are those of the rules by default; nothing else changes. Rests on what the spec
marks as its own decisions D1, D9, D10, D23 and as general knowledge (log entry 16). The model's own in it: what a
cycle table is (log entry 9). (from R250, R251, R252, R253, R254, R255) -/
def Obligations.JumpsTakeTheirCondition : Prop :=
  (∀ s : State, Cond.holds .nz s.flags = decide (s.flags.z = false) ∧ Cond.holds .z s.flags = decide (s.flags.z = true) ∧
    Cond.holds .nc s.flags = decide (s.flags.c = false) ∧ Cond.holds .c s.flags = decide (s.flags.c = true)) ∧
  (∀ (nn : Word) (s : State), exec (.jp_nn nn) s = .next { s with pc := nn, cycles := s.count (.jp nn) true }) ∧
  (∀ (i : Instr) (cc : Cond) (nn : Word), i.kind = .jpCond cc nn →
    encode i = [opXYZ 0b11 (0#1 ++ cc.code) 0b010, loByte nn, hiByte nn] ∧
    ∀ s : State, exec i s = .next (if cc.holds s.flags then { s with pc := nn, cycles := s.count (.jpCond cc nn) true }
      else { s with pc := s.pc + 3, cycles := s.count (.jpCond cc nn) false })) ∧
  (∀ s : State, exec .jp_hl s = .next { s with pc := joinBytes s.regs.h s.regs.l, cycles := s.count .jpHL true }) ∧
  (∀ (e : Byte) (s : State), exec (.jr_e e) s = .next { s with
      pc := s.pc + 2 + e.signExtend 16, cycles := s.count (.jr e) true }) ∧
  (∀ (i : Instr) (cc : Cond) (e : Byte), i.kind = .jrCond cc e →
    encode i = [opXYZ 0b00 (1#1 ++ cc.code) 0b000, e] ∧
    ∀ s : State, exec i s = .next (if cc.holds s.flags
      then { s with pc := s.pc + 2 + e.signExtend 16, cycles := s.count (.jrCond cc e) true }
      else { s with pc := s.pc + 2, cycles := s.count (.jrCond cc e) false })) ∧
  (∀ nn, encode (.jp_nn nn) = [0xC3, loByte nn, hiByte nn]) ∧ encode .jp_hl = [0xE9] ∧ (∀ e, encode (.jr_e e) = [0x18, e]) ∧
  (∀ nn, defaults.count (.jp nn) true = 16) ∧
  (∀ cc nn, defaults.count (.jpCond cc nn) true = 16 ∧ defaults.count (.jpCond cc nn) false = 12) ∧
  defaults.count .jpHL true = 4 ∧ (∀ e, defaults.count (.jr e) true = 12) ∧
  (∀ cc e, defaults.count (.jrCond cc e) true = 12 ∧ defaults.count (.jrCond cc e) false = 8)

/-- For CALL nn, CALL cc,nn and RST t (constructors call_nn, call_nz_nn, call_z_nn, call_nc_nn, call_c_nn, rst_00 to
rst_38) and every state: taken, the return address pc+3 (pc+1 for RST) is written high byte at sp-1 and low byte at
sp-2, sp drops by 2 and pc is the target (8 times the field y for RST); a fatal push leaves sp and pc. Not taken, pc
advances by 3 and nothing is pushed. The cycles and encodings are those of the rules. Rests on what the spec marks as
its own decisions D1, D9, D10, D18, D21, D23 and as general knowledge (log entry 16). The model's own in it: the field
for the report (log entry 3), a fatal error as a next state (log entry 7), what a cycle table is (log entry 9), what
stays after a fatal error (log entry 14). (from R256, R257, R261, R164, R85) -/
def Obligations.CallsPushTheReturnAddress : Prop :=
  (∀ (nn : Word) (s : State), StoresTwo (exec (.call_nn nn) s) s (s.sp - 1) (hiByte (s.pc + 3)) (s.sp - 2) (loByte (s.pc + 3))
    fun w => { w with sp := s.sp - 2, pc := nn, cycles := s.count (.call nn) true }) ∧
  (∀ (i : Instr) (cc : Cond) (nn : Word), i.kind = .callCond cc nn →
    encode i = [opXYZ 0b11 (0#1 ++ cc.code) 0b100, loByte nn, hiByte nn] ∧
    ∀ s : State,
      (cc.holds s.flags = true →
        StoresTwo (exec i s) s (s.sp - 1) (hiByte (s.pc + 3)) (s.sp - 2) (loByte (s.pc + 3))
          fun w => { w with sp := s.sp - 2, pc := nn, cycles := s.count (.callCond cc nn) true }) ∧
      (cc.holds s.flags = false →
        exec i s = .next { s with pc := s.pc + 3, cycles := s.count (.callCond cc nn) false })) ∧
  (∀ (i : Instr) (y : BitVec 3), i.kind = .rst y →
    encode i = [opXYZ 0b11 y 0b111] ∧
    ∀ s : State, StoresTwo (exec i s) s (s.sp - 1) (hiByte (s.pc + 1)) (s.sp - 2) (loByte (s.pc + 1))
      fun w => { w with sp := s.sp - 2, pc := BitVec.ofNat 16 (8 * y.toNat), cycles := s.count (.rst y) true }) ∧
  (∀ nn, encode (.call_nn nn) = [0xCD, loByte nn, hiByte nn]) ∧
  (∀ nn, defaults.count (.call nn) true = 24) ∧
  (∀ cc nn, defaults.count (.callCond cc nn) true = 24 ∧ defaults.count (.callCond cc nn) false = 12) ∧
  (∀ y, defaults.count (.rst y) true = 16)

/-- For RET, RET cc and RETI (constructors ret, ret_nz, ret_z, ret_nc, ret_c, reti) and every state exec answers the next
state: taken, pc is the word whose low byte is read at sp and whose high byte is then read at sp+1, and sp has risen
by 2; RETI also sets ime and leaves ime_scheduled; not taken, pc advances by 1 and neither the stack nor sp is
touched. The cycles and encodings are those of the rules. Rests on what the spec marks as its own decisions D1, D13,
D23 and as general knowledge (log entry 16). The model's own in it: the record of port accesses and the free value
read from them (log entry 1), what a cycle table is (log entry 9). (from R258, R259, R260) -/
def Obligations.ReturnsPopTheReturnAddress : Prop :=
  (∀ s : State,
    let r := s.noteRead s.sp
    let t := { r.noteRead (s.sp + 1) with sp := s.sp + 2, pc := joinBytes (r.peek (s.sp + 1)) (s.peek s.sp) }
    exec .ret s = .next { t with cycles := s.count .ret true } ∧
    exec .reti s = .next { t with ime := true, cycles := s.count .reti true } ∧
    ∀ (i : Instr) (cc : Cond), i.kind = .retCond cc →
      exec i s = .next (if cc.holds s.flags then { t with cycles := s.count (.retCond cc) true }
        else { s with pc := s.pc + 1, cycles := s.count (.retCond cc) false })) ∧
  (∀ (i : Instr) (cc : Cond), i.kind = .retCond cc → encode i = [opXYZ 0b11 (0#1 ++ cc.code) 0b000]) ∧
  encode .ret = [0xC9] ∧ encode .reti = [0xD9] ∧
  defaults.count .ret true = 16 ∧ (∀ cc, defaults.count (.retCond cc) true = 20 ∧ defaults.count (.retCond cc) false = 8) ∧
  defaults.count .reti true = 16

/-- For NOP, HALT, STOP, DI and EI (constructors nop, halt, stop, di, ei) and every state exec answers the next state: NOP
changes nothing but pc, HALT sets halted, STOP sets stopped and skips its padding byte whatever it is, DI clears ime
and ime_scheduled, EI sets ime_scheduled and leaves ime; pc advances by 1 (2 for STOP), each reports 4 cycles by
default, nothing else changes. Rests on what the spec marks as its own decisions D1, D13, D14, D15, D23 and as general
knowledge (log entry 16). The model's own in it: what a cycle table is (log entry 9). (from R270, R271, R272, R273, R274) -/
def Obligations.SystemInstructions : Prop :=
  (∀ s : State,
    exec .nop s = .next { s with pc := s.pc + 1, cycles := s.count .nop true } ∧
    exec .halt s = .next { s with halted := true, pc := s.pc + 1, cycles := s.count .halt true } ∧
    (∀ pad : Byte, exec (.stop pad) s = .next { s with stopped := true, pc := s.pc + 2, cycles := s.count (.stop 0) true }) ∧
    exec .di s = .next { s with ime := false, imeScheduled := false, pc := s.pc + 1, cycles := s.count .di true } ∧
    exec .ei s = .next { s with imeScheduled := true, pc := s.pc + 1, cycles := s.count .ei true }) ∧
  encode .nop = [0x00] ∧ encode .halt = [0x76] ∧ (∀ pad, encode (.stop pad) = [0x10, pad]) ∧ encode .di = [0xF3] ∧
  encode .ei = [0xFB] ∧
  defaults.count .nop true = 4 ∧ defaults.count .halt true = 4 ∧ defaults.count (.stop 0) true = 4 ∧
  defaults.count .di true = 4 ∧ defaults.count .ei true = 4

/-- For every byte after 0xCB and every state: the two bytes decode to one instruction of the secondary table, never to an
illegal one, and the primary table's own entry for 0xCB (constructor cbPrefix) answers a next state, the one that
instruction answers. Rests on what the spec marks as its own decision D1 and as general knowledge (log entry 16). The
model's own in it: the constructor cbPrefix (log entry 10), the constructor illegal (log entry 22). (from R110, R275) -/
def Obligations.PrefixByteSelectsTheSecondaryTable : Prop :=
  ∀ op2 b2 : Byte, ∃ i : Instr, decode [0xCB, op2] = .ok (i, []) ∧ decodeInstr 0xCB op2 b2 = i ∧
    encode i = [0xCB, op2] ∧ i.wf = true ∧ (∀ op, i ≠ .illegal op) ∧
    ∀ s : State, ∃ t : State, exec i s = .next t ∧ exec (.cbPrefix op2) s = .next t

/-- In a state in which no fault is latched, no stall holds, no interrupt is dispatched and the engine is not idling: the
opcode is read at pc, the bytes after it at pc+1 and pc+2 as far as the instruction has them, each by an ordinary bus
read; if the bytes decode to an instruction, exec of it answers a next state t, and the step answers t itself if t has
a latched fault, and otherwise t with the delayed ime flip applied, the PPU driven by the cycles t reports and its
request and the step's ExtIrq input or-ed into IF. A halt has ended, and the input has been taken off the list. Rests
on what the spec marks as its own decisions D10, D11, D13, D21, D29, D31, D33 (log entry 16). The model's own in it:
the record of port accesses and the free value read from them (log entry 1), the list of ExtIrq inputs (log entry 2),
a fatal error as a next state (log entry 7), the constructor illegal (log entry 22). (from R84, R90, R114, R340, R342, R347, R351) -/
def Obligations.StepRunsTheDecodedInstruction : Prop :=
  ∀ (s : State) (i : Instr) (rest : List Byte), Fetching s →
    let s0 := atFetch s
    let s1 := s0.noteRead s.pc
    let s2 := s1.noteRead (s.pc + 1)
    let s3 := s2.noteRead (s.pc + 2)
    let bytes := [s0.peek s.pc, s1.peek (s.pc + 1), s2.peek (s.pc + 2)]
    decode bytes = .ok (i, rest) →
    ∃ t, exec i (if (encode i).length = 1 then s1 else if (encode i).length = 2 then s2 else s3) = .next t ∧
      step s = .next (completed s t)

/-- In every state with a latched fault a step changes nothing of the machine: it only takes its ExtIrq input off the list
and reports no cycles. The host's wake and its disabling of the boot overlay leave the latch; reset clears it. Rests
on what the spec marks as its own decision D21 (log entry 16). The model's own in it: the list of ExtIrq inputs (log
entry 2), the field for the report (log entry 3), what the host does between steps (log entry 12). (from R29) -/
def Obligations.FaultLatchIsTerminal : Prop :=
  (∀ s : State, s.fault.isSome = true → step s = .next { s with extIrq := s.extIrq.tail, cycles := 0 }) ∧
  (∀ s : State, s.wake.fault = s.fault ∧ s.disableBootRom.fault = s.fault ∧ s.hostReset.fault = none) ∧
  State.reset.fault = none

/-- In a halted state with nothing pending a step fetches nothing, keeps pc and every register, reports the idle step's
cycles (4 by default), drives the PPU and merges. In a halted state with an enabled request the step is exactly the
step of the same state not halted, whether ime is set or not. Rests on what the spec marks as its own decisions D14,
D23 and as general knowledge (log entry 16). It compares two runs with equal port logs, which log entry 1 marks
unsafe: a collaborator that watches time may answer them differently. The model's own in it: the list of ExtIrq inputs
(log entry 2), what a cycle table is (log entry 9). (from R341, R357, R395) -/
def Obligations.HaltedEngine : Prop :=
  (∀ s : State, Running s → s.halted = true → pending s = 0 →
    step s = .next (settle s { s with extIrq := s.extIrq.tail, cycles := s.cfg.cycles.idle })) ∧
  (∀ s : State, Running s → pending s ≠ 0 → step s = step { s with halted := false }) ∧
  (∀ s t : State, Running s → s.halted = true → pending s = 0 → step s = .next t →
    t.pc = s.pc ∧ t.regs = s.regs ∧ t.flags = s.flags ∧ t.sp = s.sp ∧ t.halted = true) ∧
  defaults.idle = 4

/-- In a running state with ime set, where n is the least bit both enabled and requested: the step clears ime,
ime_scheduled, halted and bit n of IF, writes the high byte of pc at sp-1 and the low byte at sp-2, drops sp by 2,
sets pc to 0x0040 + 8n, reports the dispatch's cycles (20 by default), drives the PPU and merges. If a push is fatal
the latch is set, the changes before it stay, and the step ends there. Rests on what the spec marks as its own
decisions D10, D11, D12, D13, D14, D17, D18, D21, D23, D31 and as general knowledge (log entry 16). The model's own in
it: the list of ExtIrq inputs (log entry 2), the field for the report (log entry 3), a fatal error as a next state
(log entry 7), what a cycle table is (log entry 9), what stays after a fatal error (log entry 14). (from R352, R353, R354, R355, R164, R85, R347, R357, R395) -/
def Obligations.InterruptDispatch : Prop :=
  (∀ (s : State) (n : Nat), Running s → s.ime = true → n < 5 →
    s.ie.getLsbD n = true → s.iflags.getLsbD n = true →
    (∀ k : Nat, k < n → ¬(s.ie.getLsbD k = true ∧ s.iflags.getLsbD k = true)) →
    ∃ r : State, r = { s with
        ime := false, imeScheduled := false, halted := false, iflags := r.iflags, extIrq := s.extIrq.tail } ∧
      (∀ k : Nat, k < 5 → r.iflags.getLsbD k = (s.iflags.getLsbD k && decide (k ≠ n))) ∧
      StoresTwo (step s) r (s.sp - 1) (hiByte s.pc) (s.sp - 2) (loByte s.pc) fun w =>
        settle s { w with sp := s.sp - 2, pc := BitVec.ofNat 16 (0x40 + 8 * n), cycles := s.cfg.cycles.dispatch }) ∧
  defaults.dispatch = 20

/-- Take a running state with ime and ime_scheduled both false whose next instruction is EI: the step leaves ime false and
ime_scheduled set. From any running state with ime false, not halted and ime_scheduled set, a step that latches no
fault ends with ime_scheduled clear, and with ime set unless the instruction was DI, after which ime is clear. Rests
on what the spec marks as its own decisions D1, D13 (log entry 16). (from R274, R342, R385) -/
def Obligations.EnableTakesEffectAfterTheNextStep : Prop :=
  (∀ s t : State, Fetching s → s.ime = false → s.imeScheduled = false → s.peek s.pc = 0xFB → step s = .next t →
    t.ime = false ∧ t.imeScheduled = true) ∧
  (∀ s t : State, Running s → s.ime = false → s.halted = false → s.imeScheduled = true → step s = .next t →
    t.fault = none → t.imeScheduled = false ∧ (t.ime = true ↔ s.peek s.pc ≠ 0xF3))

/-- With STOP_STALLS set, a step of a stopped engine without a latched fault changes nothing of the machine: it only takes
its ExtIrq input off the list and reports no cycles; the host's wake clears stopped and changes nothing else, and
after the host's reset stopped is clear. With STOP_STALLS clear, two states that differ in stopped alone step to
states that differ in it at most. Rests on what the spec marks as its own decisions D15, D22 and as general knowledge
(log entry 16). It compares two runs with equal port logs, which log entry 1 marks unsafe: a collaborator that watches
time may answer them differently. The model's own in it: the list of ExtIrq inputs (log entry 2), the field for the
report (log entry 3), what the host does between steps (log entry 12). (from R367, R380) -/
def Obligations.StoppedEngine : Prop :=
  (∀ s : State, s.fault = none → s.cfg.stopStalls = true → s.stopped = true →
    step s = .next { s with extIrq := s.extIrq.tail, cycles := 0 }) ∧
  (∀ s : State, s.wake = { s with stopped := false } ∧ s.hostReset.stopped = false) ∧
  (∀ (s : State) (b : Bool), s.cfg.stopStalls = false →
    ∃ t u, step s = .next t ∧ step { s with stopped := b } = .next u ∧ { u with stopped := t.stopped } = t) ∧
  ({} : Params).stopStalls = false

/-- For every address and state, region by region with its first and last address: the byte a read returns is that of the
boot ROM, the cartridge, VRAM, external RAM, working RAM (directly and through the echo range), OAM, 0 in the unused
range, the registers IF, LCDC, STAT, LY, LYC, BOOTOFF and IE as their rules lay them out, high RAM; only the external
port is left to its collaborator. A read changes nothing, but for the external port, which sees it. Rests on what the
spec marks as its own decisions D12, D16, D17, D19, D22, D26, D33, D34 and as general knowledge (log entry 16). The
model's own in it: the record of port accesses and the free value read from them (log entry 1). (from R41, R42, R43, R44, R45, R46, R47, R301, R62, R63, R64, R65, R66, R67, R68, R69, R70, R72, R73, R74, R80, R86) -/
def Obligations.RegionsRead : Prop :=
  ∀ (s : State) (a : Word),
    readByte a s = (s.peek a, s.noteRead a) ∧
    (s.bootRomEnabled = true → a.toNat ≤ 0x00FF → s.peek a = Memory.read s.cfg.bootRom a.toNat) ∧
    (s.bootRomEnabled = false → a.toNat ≤ 0x00FF → s.peek a = Memory.read s.cfg.cartRom a.toNat) ∧
    (0x0100 ≤ a.toNat → a.toNat ≤ 0x7FFF → s.peek a = Memory.read s.cfg.cartRom a.toNat) ∧
    (0x8000 ≤ a.toNat → a.toNat ≤ 0x9FFF → s.peek a = s.ppu.vram.read (a.toNat - 0x8000)) ∧
    (0xA000 ≤ a.toNat → a.toNat ≤ 0xBFFF → s.peek a = s.eram.read (a.toNat - 0xA000)) ∧
    (0xC000 ≤ a.toNat → a.toNat ≤ 0xDFFF → s.peek a = s.wram.read (a.toNat - 0xC000)) ∧
    (0xE000 ≤ a.toNat → a.toNat ≤ 0xFDFF → s.peek a = s.wram.read (a.toNat - 0xE000)) ∧
    (0xFE00 ≤ a.toNat → a.toNat ≤ 0xFE9F → s.peek a = s.ppu.oam.read (a.toNat - 0xFE00)) ∧
    (0xFEA0 ≤ a.toNat → a.toNat ≤ 0xFEFF → s.peek a = 0x00) ∧
    (0xFF80 ≤ a.toNat → a.toNat ≤ 0xFFFE → s.peek a = s.hram.read (a.toNat - 0xFF80)) ∧
    s.peek 0xFFFF = s.cfg.intUpperBits ++ s.ie ∧ s.peek 0xFF0F = s.cfg.intUpperBits ++ s.iflags ∧
    s.peek 0xFF40 = s.ppu.lcdc ∧ s.peek 0xFF44 = s.ppu.ly ∧ s.peek 0xFF45 = s.ppu.lyc ∧ s.peek 0xFF50 = 0xFF ∧
    (s.peek 0xFF41).toNat =
      (match s.ppu.mode with | .hBlank => 0 | .vBlank => 1 | .oamScan => 2 | .pixelTransfer => 3) +
      (if s.ppu.ly = s.ppu.lyc then 4 else 0) + (if s.ppu.selHblank then 8 else 0) +
      (if s.ppu.selVblank then 16 else 0) + (if s.ppu.selOam then 32 else 0) + (if s.ppu.selLyc then 64 else 0) ∧
    (Port a → s.peek a = Config.ioRead s.ioLog a ∧ s.noteRead a = { s with ioLog := .read a :: s.ioLog }) ∧
    (¬Port a → s.noteRead a = s)

/-- For every address, byte and state, region by region with its first and last address: a write goes through and makes
exactly the one update of its region, or is fatal with exactly the latch set: ROM is ignored or fatal by the policy,
VRAM and OAM go to the PPU, RAM stores its byte (working RAM also through the echo range), the unused range is fatal,
IF and IE take bits 4 to 0, LCDC and LYC the whole byte, STAT its select bits, LY nothing, BOOTOFF disables the
overlay if the byte is not 0, the external port sees the write. Rests on what the spec marks as its own decisions D12,
D16, D17, D18, D19, D21, D22, D26, D33 and as general knowledge (log entry 16). The model's own in it: the record of
port accesses and the free value read from them (log entry 1), the field for the report (log entry 3), a fatal error
as a next state (log entry 7), what the host does between steps (log entry 12). (from R41, R42, R43, R44, R45, R46, R47, R302, R303, R304, R65, R66, R67, R68, R69, R70, R72, R73, R74, R85, R86, R87) -/
def Obligations.RegionsWrite : Prop :=
  ∀ (s : State) (a : Word) (v : Byte),
    (a.toNat ≤ 0x7FFF → writeByte a v s =
      match s.cfg.romWrite with | .ignore => .done s | .fault => .fatal (latched (.romWrite a) s)) ∧
    (0x8000 ≤ a.toNat → a.toNat ≤ 0x9FFF → writeByte a v s = .done { s with ppu := s.ppu.writeVram (a.toNat - 0x8000) v }) ∧
    (0xA000 ≤ a.toNat → a.toNat ≤ 0xBFFF → writeByte a v s = .done { s with eram := s.eram.write (a.toNat - 0xA000) v }) ∧
    (0xC000 ≤ a.toNat → a.toNat ≤ 0xDFFF → writeByte a v s = .done { s with wram := s.wram.write (a.toNat - 0xC000) v }) ∧
    (0xE000 ≤ a.toNat → a.toNat ≤ 0xFDFF → writeByte a v s = .done { s with wram := s.wram.write (a.toNat - 0xE000) v }) ∧
    (0xFE00 ≤ a.toNat → a.toNat ≤ 0xFE9F → writeByte a v s = .done { s with ppu := s.ppu.writeOam (a.toNat - 0xFE00) v }) ∧
    (Unused a → writeByte a v s = .fatal (latched (.unusedWrite a) s)) ∧
    (0xFF80 ≤ a.toNat → a.toNat ≤ 0xFFFE → writeByte a v s = .done { s with hram := s.hram.write (a.toNat - 0xFF80) v }) ∧
    writeByte 0xFFFF v s = .done { s with ie := v.extractLsb' 0 5 } ∧
    writeByte 0xFF0F v s = .done { s with iflags := v.extractLsb' 0 5 } ∧
    writeByte 0xFF40 v s = .done { s with ppu := { s.ppu with lcdc := v } } ∧
    writeByte 0xFF41 v s = .done { s with ppu := { s.ppu with
      selHblank := v.getLsbD 3, selVblank := v.getLsbD 4, selOam := v.getLsbD 5, selLyc := v.getLsbD 6 } } ∧
    writeByte 0xFF44 v s = .done s ∧
    writeByte 0xFF45 v s = .done { s with ppu := { s.ppu with lyc := v } } ∧
    writeByte 0xFF50 v s = .done { s with bootRomEnabled := s.bootRomEnabled && v == 0 } ∧
    (Port a → writeByte a v s = .done { s with ioLog := .write a v :: s.ioLog }) ∧
    s.disableBootRom = { s with bootRomEnabled := false }

/-- In a state with canonical storage, after a write to VRAM, external RAM, working RAM, the echo range, OAM or high RAM
the address reads the byte written, its mirror through the echo range reads it too, and every address that is another
byte of memory reads as before, whatever its region. Rests on what the spec marks as its own decision D19 and as
general knowledge (log entry 16). An address of the external port is among the others: that it answers as before,
while the port has seen no access, is log entry 1. The model's own in it: the record of port accesses and the free
value read from them (log entry 1), storage as canonical lists (log entry 5), the stored views (log entry 15). (from R68, R80, R81) -/
def Obligations.WrittenByteReadsBack : Prop :=
  ∀ (s u : State) (a : Word) (v : Byte), s.storageWf = true →
    (0x8000 ≤ a.toNat ∧ a.toNat ≤ 0xFE9F) ∨ (0xFF80 ≤ a.toNat ∧ a.toNat ≤ 0xFFFE) →
    writeByte a v s = .done u →
    u.peek a = v ∧
    (0xC000 ≤ a.toNat → a.toNat ≤ 0xDDFF → u.peek (a + 0x2000) = v) ∧
    (0xE000 ≤ a.toNat → a.toNat ≤ 0xFDFF → u.peek (a - 0x2000) = v) ∧
    ∀ b : Word, Apart a b → u.peek b = s.peek b

/-- For every instruction and state, where exec answers a next state: every address that is another byte than each of the
addresses the instruction stores to, computed from the state by its own operand form, reads as before; a form that
stores nothing leaves every address. The exceptions are those the bus rules make: a store to LYC shows in the
coincidence bit of STAT, a store to BOOTOFF in the addresses of the boot ROM, and the external port may answer
anything once it has seen an access. Rests on what the spec marks as its own decisions D29, D33 (log entry 16). The
model's own in it: the record of port accesses and the free value read from them (log entry 1), the constructor
cbPrefix (log entry 10). (from R79, R80, R81, R86, R315) -/
def Obligations.InstructionMemoryFrame : Prop :=
  ∀ (i : Instr) (s t : State), exec i s = .next t → ∀ a : Word,
    (∀ b ∈ storedAt s (effKind i), Apart a b) →
    (a = 0xFF41 → 0xFF45 ∉ storedAt s (effKind i)) →
    (a.toNat < 0x100 → 0xFF50 ∉ storedAt s (effKind i)) →
    (Port a → t.ioLog = s.ioLog) →
    t.peek a = s.peek a

/-- For every instruction and state, where exec answers a next state: every register that is no destination of the
instruction keeps its value; sp changes only in the instructions R26 lists; each flag changes only in the instructions
whose rule writes it; ime changes only in DI and RETI, ime_scheduled only in DI and EI, halted only in HALT, stopped
only in STOP; a latched fault is never cleared; the PPU's mode, counter and LY, the parameters and the ExtIrq inputs
never change. Rests on what the spec marks as its own decisions D10, D13, D22 (log entry 16). The model's own in it:
the list of ExtIrq inputs (log entry 2), the parameters as fields no step writes (log entry 8), the constructor
cbPrefix (log entry 10). (from R21, R26, R27, R28, R315) -/
def Obligations.InstructionRegisterFrame : Prop :=
  ∀ (i : Instr) (s t : State), exec i s = .next t →
    (∀ r : Reg8, r ∉ destRegs (effKind i) → t.regs.get r = s.regs.get r) ∧
    (writesSp (effKind i) = false → t.sp = s.sp) ∧
    (writesZ (effKind i) = false → t.flags.z = s.flags.z) ∧ (writesN (effKind i) = false → t.flags.n = s.flags.n) ∧
    (writesH (effKind i) = false → t.flags.h = s.flags.h) ∧ (writesC (effKind i) = false → t.flags.c = s.flags.c) ∧
    (i ≠ .di → i ≠ .reti → t.ime = s.ime) ∧ (i ≠ .di → i ≠ .ei → t.imeScheduled = s.imeScheduled) ∧
    (i ≠ .halt → t.halted = s.halted) ∧ ((∀ pad, i ≠ .stop pad) → t.stopped = s.stopped) ∧
    (s.fault.isSome = true → t.fault.isSome = true) ∧
    t.ppu.mode = s.ppu.mode ∧ t.ppu.cycles = s.ppu.cycles ∧ t.ppu.ly = s.ppu.ly ∧ t.cfg = s.cfg ∧ t.extIrq = s.extIrq

/-- For a PPU state with canonical storage and every VRAM offset: after the write the offset holds the byte; if it lies
below 0x1800, row (offset mod 16)/2 of tile offset/16 has, in each column, the pixel whose low bit is the even byte's
bit 7-column and whose high bit the odd byte's, and every other row is as before; from 0x1800 on no row changes.
Nothing else of the PPU changes, in any mode. Rests on what the spec marks as its own decision D24 and as general
knowledge (log entry 16). The model's own in it: storage as canonical lists (log entry 5), the stored views (log entry
15). (from R292, R295) -/
def Obligations.VramWriteRefreshesItsRow : Prop :=
  ∀ (p : Ppu) (i : Nat) (v : Byte), p.vram.wf = true → Cells.wf zeroRow p.tiles = true → i < 0x2000 →
    let q := p.writeVram i v
    q = { p with vram := q.vram, tiles := q.tiles } ∧
    q.vram.read i = v ∧ (∀ j, j ≠ i → q.vram.read j = p.vram.read j) ∧
    (i < 0x1800 → ∀ col : Fin 8,
      ((Cells.read zeroRow q.tiles (tileKey (i / 16) (i % 16 / 2))).col col).toNat =
        2 * ((q.vram.read (i / 2 * 2 + 1)).toNat / 2 ^ (7 - col.val) % 2) +
          (q.vram.read (i / 2 * 2)).toNat / 2 ^ (7 - col.val) % 2) ∧
    (∀ t row, row < 8 → (0x1800 ≤ i ∨ t ≠ i / 16 ∨ row ≠ i % 16 / 2) →
      Cells.read zeroRow q.tiles (tileKey t row) = Cells.read zeroRow p.tiles (tileKey t row))

/-- For a PPU state with canonical storage and every OAM offset: after the write the offset holds the byte, and entry
offset/4 has the record's raw y and x, its tile index with bit 0 cleared if LCDC bit 2 is set at the write, and the
top four bits of its flags byte; every other entry is as before; an LCDC write changes no entry. Nothing else of the
PPU changes, in any mode. Rests on what the spec marks as its own decision D25 and as general knowledge (log entry
16). The model's own in it: storage as canonical lists (log entry 5), the stored views (log entry 15). (from R298, R299) -/
def Obligations.OamWriteDecodesItsRecord : Prop :=
  (∀ (p : Ppu) (i : Nat) (v : Byte), p.oam.wf = true → Cells.wf zeroObject p.objects = true → i < 0xA0 →
    let q := p.writeOam i v
    let k := i / 4
    let tile := (q.oam.read (4 * k + 2)).toNat
    q = { p with oam := q.oam, objects := q.objects } ∧
    q.oam.read i = v ∧ (∀ j, j ≠ i → q.oam.read j = p.oam.read j) ∧
    Cells.read zeroObject q.objects k =
      ⟨q.oam.read (4 * k), q.oam.read (4 * k + 1),
       BitVec.ofNat 8 (if p.lcdc.getLsbD 2 then tile / 2 * 2 else tile),
       BitVec.ofNat 4 ((q.oam.read (4 * k + 3)).toNat / 16)⟩ ∧
    (∀ j, j ≠ k → Cells.read zeroObject q.objects j = Cells.read zeroObject p.objects j)) ∧
  (∀ (p : Ppu) (v : Byte), (p.writeLcdc v).objects = p.objects ∧ (p.writeLcdc v).oam = p.oam ∧
    (p.writeLcdc v).lcdc.getLsbD 2 = v.getLsbD 2)

/-- Take a PPU state in OAMScan whose counter is below 80, any list of counts fed to it call by call, and T, its counter
and the counts added up. As long as T is below 80 the mode is OAMScan. The call that brings T to 80 or more, short of
the 172 cycles of PixelTransfer after it, leaves the mode at PixelTransfer, requests nothing and changes nothing else
but the counter, LY included. From then on, until T has reached the 456 cycles of a scanline, the mode is not OAMScan,
so OAMScan cannot end again. (states R307) -/
def Obligations.OamScanEndsOnce : Prop :=
  ∀ (p : Ppu) (counts : List Nat), p.mode = .oamScan → p.cycles < 80 →
    let T := p.cycles + counts.sum
    let q := fed p counts
    (T < 80 → q.mode = .oamScan) ∧
    (∀ n, T < 80 → 80 ≤ T + n → T + n < 80 + 172 →
      (q.step n).1 = { p with mode := .pixelTransfer, cycles := (q.step n).1.cycles } ∧ (q.step n).2 = .none) ∧
    (80 ≤ T → T < 456 → q.mode ≠ .oamScan)

/-- For every PPU state whose counter is within its mode, a step that brings the counter exactly to the mode's duration
leaves the counter at 0 and makes the one transition of that mode: OAMScan to PixelTransfer without a request;
PixelTransfer to HBlank with an LCD request if selected; HBlank to the next line, VBlank with its request and a
selected LCD request at line 144, else OAMScan with a selected LCD request; a VBlank line to the next, after line 153
to line 0 and OAMScan with a selected LCD request; after each change of LY an LCD request if LY equals LYC and it is
selected. One cycle earlier nothing happens. Rests on what the spec marks as its own decision D27 and as general
knowledge (log entry 16). The model's own in it: the field for the report (log entry 3). (from R305, R307, R308, R309, R310, R311, R312) -/
def Obligations.ModeEnds : Prop :=
  (PpuMode.duration .oamScan = 80 ∧ PpuMode.duration .pixelTransfer = 172 ∧ PpuMode.duration .hBlank = 204 ∧
    PpuMode.duration .vBlank = 456) ∧
  (InterruptRequest.mask .none = 0b00000 ∧ InterruptRequest.mask .vblank = 0b00001 ∧
    InterruptRequest.mask .lcd = 0b00010 ∧ InterruptRequest.mask .both = 0b00011 ∧
    ∀ a b : InterruptRequest, (a.union b).mask = a.mask ||| b.mask) ∧
  (∀ (p : Ppu) (n : Nat), p.cycles + n < p.mode.duration → p.step n = ({ p with cycles := p.cycles + n }, .none)) ∧
  (∀ (p : Ppu) (n : Nat), p.cycles < p.mode.duration → p.cycles + n = p.mode.duration → p.LyOk →
    let lcd (c : Bool) : IntSet := if c then 0b00010 else 0
    let next := p.ly.toNat + 1
    let hit (line : Nat) : Bool := p.selLyc && decide (line = p.lyc.toNat)
    match p.mode with
    | .oamScan => (p.step n).1 = { p with cycles := 0, mode := .pixelTransfer } ∧ (p.step n).2.mask = 0
    | .pixelTransfer =>
      (p.step n).1 = { p with cycles := 0, mode := .hBlank } ∧ (p.step n).2.mask = lcd p.selHblank
    | .hBlank =>
      if next = 144 then
        (p.step n).1 = { p with cycles := 0, ly := 144, mode := .vBlank } ∧
        (p.step n).2.mask = 0b00001 ||| lcd p.selVblank ||| lcd (hit 144)
      else
        (p.step n).1 = { p with cycles := 0, ly := BitVec.ofNat 8 next, mode := .oamScan } ∧
        (p.step n).2.mask = lcd p.selOam ||| lcd (hit next)
    | .vBlank =>
      if next = 154 then
        (p.step n).1 = { p with cycles := 0, ly := 0, mode := .oamScan } ∧
        (p.step n).2.mask = lcd p.selOam ||| lcd (hit 0)
      else
        (p.step n).1 = { p with cycles := 0, ly := BitVec.ofNat 8 next } ∧ (p.step n).2.mask = lcd (hit next))

/-- For every PPU state and all counts m and n, the PPU after a step of m + n cycles is the PPU after a step of m and a
step of n, and its request is the union of the two requests; a step of 0 cycles from a state whose counter is within
its mode changes nothing and requests nothing. Rests on what the spec marks as its own decision D27 (log entry 16). (from R306) -/
def Obligations.PpuStepIsAdditive : Prop :=
  (∀ (p : Ppu) (m n : Nat),
    (p.step (m + n)).1 = ((p.step m).1.step n).1 ∧
    (p.step (m + n)).2 = (p.step m).2.union ((p.step m).1.step n).2) ∧
  (∀ p : Ppu, p.CounterOk → p.step 0 = (p, .none))

/-- For a PPU state at the start of line 0 (OAMScan, counter 0, LY 0) and cumulative cycles T: at 80 the mode is
PixelTransfer, at 252 HBlank, at 456n line n starts in OAMScan for n up to 143, at 65664 + 456k line 144 + k is in
VBlank for k up to 9, and at 70224 the state is the start again, having requested VBlank, and LCD exactly if one of
its causes was selected: HBlank, VBlank or OAM entry, or LYC for a line below 154. Rests on what the spec marks as its
own decision D27 (log entry 16). (from R305, R306, R319) -/
def Obligations.FrameTimeline : Prop :=
  ∀ p : Ppu, p.mode = .oamScan → p.cycles = 0 → p.ly = 0 →
    (p.step 79).1 = { p with cycles := 79 } ∧
    (p.step 80).1 = { p with mode := .pixelTransfer } ∧ (p.step 252).1 = { p with mode := .hBlank } ∧
    (∀ n, n < 144 → (p.step (456 * n)).1 = { p with ly := BitVec.ofNat 8 n }) ∧
    (∀ k, k < 10 → (p.step (65664 + 456 * k)).1 = { p with ly := BitVec.ofNat 8 (144 + k), mode := .vBlank }) ∧
    (p.step 70224).1 = p ∧
    (p.step 70224).2 =
      if p.selHblank || p.selVblank || p.selOam || (p.selLyc && decide (p.lyc.toNat < 154)) then .both else .vblank

/-- From a state whose PPU counter is within its mode, under the default table of cycle counts, a step reports at most 24
cycles and leaves the PPU either in its mode and line, with the counter advanced by the cycles reported and still
below the mode's duration, or in the mode and line that the end of its mode gives, with the counter advanced by the
cycles reported less the one duration, and below 24; LY is unchanged, one higher, or 0 after 153. A step that ends
with a latched fault reports 0 cycles, and so is of the first kind. Rests on what the spec marks as its own decisions
D21, D23, D27, D31 and as general knowledge (log entry 16). The model's own in it: the field for the report (log entry
3), a fatal error as a next state (log entry 7), what a cycle table is (log entry 9). (from R347, R390, R395, R306, R307, R308, R309, R310) -/
def Obligations.AtMostOneTransitionPerStep : Prop :=
  ∀ s t : State, s.cfg.cycles = defaults → s.ppu.CounterOk → s.ppu.LyOk → step s = .next t →
    t.cycles ≤ 24 ∧ (t.fault.isSome = true → t.cycles = 0) ∧
    ((s.ppu.cycles + t.cycles < s.ppu.mode.duration ∧
      t.ppu.mode = s.ppu.mode ∧ t.ppu.ly = s.ppu.ly ∧ t.ppu.cycles = s.ppu.cycles + t.cycles) ∨
     (t.ppu.mode = s.ppu.modeEnd.1.mode ∧ t.ppu.ly = s.ppu.modeEnd.1.ly ∧
      t.ppu.cycles < 24 ∧ t.ppu.cycles + s.ppu.mode.duration = s.ppu.cycles + t.cycles ∧
      (t.ppu.ly = s.ppu.ly ∨ t.ppu.ly = s.ppu.ly + 1 ∨ (s.ppu.ly = 153 ∧ t.ppu.ly = 0))))

/-- For every state whose PPU counter is smaller than its mode's duration and whose LY is below 144 outside VBlank and 144
to 153 in VBlank, the state after a step has the same properties, whatever the cycle table. Rests on what the spec
marks as its own decisions D22, D27 and as general knowledge (log entry 16). (from R40, R306, R309, R310) -/
def Obligations.StepKeepsPpuTiming : Prop :=
  ∀ s t : State, s.ppu.CounterOk → s.ppu.LyOk → step s = .next t → t.ppu.CounterOk ∧ t.ppu.LyOk

/-- For every state with canonical storage in which each row of the tile cache is the row its two VRAM bytes give, the
state after a step has the same property. Rests on what the spec marks as its own decision D24 and as general
knowledge (log entry 16). The model's own in it: storage as canonical lists (log entry 5), the stored views (log entry
15). (from R38, R292, R295, R296) -/
def Obligations.StepKeepsTileCache : Prop :=
  ∀ s t : State, s.storageWf = true → s.ppu.TilesOk → step s = .next t → t.ppu.TilesOk

/-- For every state with canonical storage in which each object entry is its OAM record decoded with the tile index either
masked or not, the state after a step has the same property. Rests on what the spec marks as its own decisions D22,
D25 and as general knowledge (log entry 16). The model's own in it: storage as canonical lists (log entry 5), the
stored views (log entry 15). (from R39, R298, R299) -/
def Obligations.StepKeepsObjectEntries : Prop :=
  ∀ s t : State, s.storageWf = true → s.ppu.ObjectsOk → step s = .next t → t.ppu.ObjectsOk

/-- For every state whose arrays (the five memories, the tile cache, the object entries) are in canonical form and hold no
entry past their size, the state after a step has the same properties. Rests on what the spec marks as its own
decision D22 (log entry 16). The model's own in it: storage as canonical lists (log entry 5), the stored views (log
entry 15). (from R6, R33, R34, R35, R36, R37, R38, R39) -/
def Obligations.StepKeepsStorageForm : Prop :=
  ∀ s t : State, s.storageWf = true → s.sizesOk = true → step s = .next t → t.storageWf = true ∧ t.sizesOk = true

/-- For every state there is a next state: no step stops the model. The parameters are those before, and if the boot ROM
overlay was disabled it stays disabled; a read of an address below 0x8000 then gives the same byte for ever. Rests on
what the spec marks as its own decisions D11, D18, D21, D31 (log entry 16). The model's own in it: a fatal error as a
next state (log entry 7), the parameters as fields no step writes (log entry 8). (from R31, R32, R60, R62, R87, R340, R347) -/
def Obligations.StepAnswersAndKeepsConfiguration : Prop :=
  ∀ s : State, ∃ t, step s = .next t ∧ t.cfg = s.cfg ∧ (s.bootRomEnabled = false → t.bootRomEnabled = false) ∧
    (s.bootRomEnabled = false → ∀ a : Word, a.toNat < 0x8000 → t.peek a = s.peek a)

/-- For every instruction and state, and every other cycle table: where exec answers a state, exec of the state with the
other table answers the same state with that table, but for the cycles reported; and exec does not read the cycles the
previous step reported. It compares two runs with equal port logs, which log entry 1 marks unsafe: a collaborator that
watches time may answer them differently. The model's own in it: what a cycle table is (log entry 9). (from R396) -/
def Obligations.CycleTableDoesNotInfluenceInstructions : Prop :=
  ∀ (i : Instr) (s t : State) (table : CycleTable) (n : Nat), exec i s = .next t →
    ∃ m, exec i (withTable table { s with cycles := n }) = .next (withTable table { t with cycles := m })

/-- For two states that agree on everything but the tile cache and the object entries, the states after a step agree on
everything but them; PixelTransfer lasts 172 cycles whatever they hold. It compares two runs with equal port logs,
which log entry 1 marks unsafe: a collaborator that watches time may answer them differently. The model's own in it:
the stored views (log entry 15). (from R316) -/
def Obligations.DerivedViewsAreNotRead : Prop :=
  (∀ s s' t t' : State, withoutViews s = withoutViews s' → step s = .next t → step s' = .next t' →
    withoutViews t = withoutViews t') ∧
  PpuMode.duration .pixelTransfer = 172

/-- Reading BC, DE or HL gives 256 times the high register plus the low one; after writing a word to BC, DE or HL reading
gives the word back, the two registers are its bytes and no other register has changed; writing one register of a pair
changes the pair; AF does not round-trip. (states R24) -/
def Obligations.PairViews : Prop :=
  (∀ r : Regs, r.bc.toNat = 256 * r.b.toNat + r.c.toNat ∧ r.de.toNat = 256 * r.d.toNat + r.e.toNat ∧
    r.hl.toNat = 256 * r.h.toNat + r.l.toNat) ∧
  (∀ (r : Regs) (v : Word), (r.setBC v).bc = v ∧ (r.setDE v).de = v ∧ (r.setHL v).hl = v ∧
    r.setBC v = { r with b := v.extractLsb' 8 8, c := v.extractLsb' 0 8 } ∧
    r.setDE v = { r with d := v.extractLsb' 8 8, e := v.extractLsb' 0 8 } ∧
    r.setHL v = { r with h := v.extractLsb' 8 8, l := v.extractLsb' 0 8 }) ∧
  (∀ (r : Regs) (v : Byte),
    (r.set .b v).bc.toNat = 256 * v.toNat + r.c.toNat ∧ (r.set .c v).bc.toNat = 256 * r.b.toNat + v.toNat ∧
    (r.set .d v).de.toNat = 256 * v.toNat + r.e.toNat ∧ (r.set .e v).de.toNat = 256 * r.d.toNat + v.toNat ∧
    (r.set .h v).hl.toNat = 256 * v.toNat + r.l.toNat ∧ (r.set .l v).hl.toNat = 256 * r.h.toNat + v.toNat) ∧
  (∀ s : State, (s.setAF 0x0001).getAF ≠ 0x0001)

/-- For a block with any parameters, reset puts pc at 0, clears ime, ime_scheduled, halted, stopped and the latch, turns
the overlay on, clears IE, IF, LCDC, LYC and the select bits, puts the PPU at the start of line 0 in OAMScan with
every object entry 0 and the tile cache the function of VRAM, takes the registers, flags and sp from RESET_REGS and
the memories from INIT_MEM, and keeps the parameters and ROM images; a reset by the host gives that state whatever the
state was, with the parameters and, which is the model's choice, the port's record and the ExtIrq inputs to come kept
(log entry 12). With the default parameters the registers, flags, sp and memories are 0 (the value the spec gives as a
default, not as a claim; log entries 4 and 5). Rests on what the spec marks as its own decision D22 (log entry 16).
The model's own in it: the record of port accesses and the free value read from them (log entry 1), the list of ExtIrq
inputs (log entry 2), storage as canonical lists (log entry 5), what the host does between steps (log entry 12), the
stored views (log entry 15). (from R380) -/
def Obligations.ResetState : Prop :=
  (∀ p : Params,
    let s := State.resetWith p
    s.regs = ⟨p.resetRegs.a, p.resetRegs.b, p.resetRegs.c, p.resetRegs.d, p.resetRegs.e, p.resetRegs.h, p.resetRegs.l⟩ ∧
    s.flags = ⟨p.resetRegs.fZ, p.resetRegs.fN, p.resetRegs.fH, p.resetRegs.fC⟩ ∧ s.sp = p.resetRegs.sp ∧
    s.pc = 0x0000 ∧ s.ime = false ∧ s.imeScheduled = false ∧ s.halted = false ∧ s.stopped = false ∧ s.fault = none ∧
    s.bootRomEnabled = true ∧ s.wram = p.initMem.wram ∧ s.eram = p.initMem.eram ∧ s.hram = p.initMem.hram ∧
    s.ppu.vram = p.initMem.vram ∧ s.ppu.oam = p.initMem.oam ∧
    (∀ k, Cells.read zeroObject s.ppu.objects k = ⟨0, 0, 0, 0⟩) ∧
    s.ppu.mode = .oamScan ∧ s.ppu.cycles = 0 ∧ s.ppu.ly = 0 ∧ s.ppu.lyc = 0 ∧ s.ppu.selHblank = false ∧
    s.ppu.selVblank = false ∧ s.ppu.selOam = false ∧ s.ppu.selLyc = false ∧ s.ppu.lcdc = 0x00 ∧ s.ie = 0 ∧ s.iflags = 0 ∧
    s.cfg = p) ∧
  (∀ p : Params, Memory.wf p.initMem.vram = true → (State.resetWith p).ppu.TilesOk) ∧
  (∀ s : State, s.hostReset = { State.resetWith s.cfg with ioLog := s.ioLog, extIrq := s.extIrq }) ∧
  ({} : ResetRegs) = ⟨0, 0, 0, 0, 0, 0, 0, false, false, false, false, 0⟩ ∧ ({} : InitMem) = ⟨[], [], [], [], []⟩ ∧
  (∀ k, Memory.read [] k = 0x00) ∧ State.reset = State.resetWith {}

/-- The state after reset with the default parameters has canonical storage within the array sizes, a tile cache equal to
the function of VRAM, object entries equal to their records decoded, and the PPU's counter and LY within their ranges.
(It rests on the default memory contents, log entry 5.) Rests on what the spec marks as its own decision D22 (log
entry 16). The model's own in it: storage as canonical lists (log entry 5), the stored views (log entry 15). (from R380, R296, R40) -/
def Obligations.ResetMeetsTheInvariants : Prop :=
  State.reset.storageWf = true ∧ State.reset.sizesOk = true ∧ State.reset.ppu.TilesOk ∧ State.reset.ppu.ObjectsOk ∧
  State.reset.ppu.CounterOk ∧ State.reset.ppu.LyOk

/-- Construction refuses a boot ROM of any length but 256 and a cartridge shorter than 0x8000 bytes; otherwise it answers
a block right after reset in which address a below 0x100 reads byte a of the boot ROM and address a from 0x100 to
0x7FFF byte a of the cartridge. Rests on what the spec marks as its own decision D22 (log entry 16). The model's own
in it: what the host does between steps (log entry 12). (from R346, R381, R383) -/
def Obligations.ConstructionChecksTheImages : Prop :=
  ∀ (boot cart : List Byte) (p : Params),
    (boot.length ≠ 256 → construct boot cart p = .error .bootRomSize) ∧
    (boot.length = 256 → cart.length < 0x8000 → construct boot cart p = .error .cartRomSize) ∧
    (boot.length = 256 → 0x8000 ≤ cart.length → ∃ s : State, construct boot cart p = .ok s ∧
      s = State.resetWith { p with bootRom := s.cfg.bootRom, cartRom := s.cfg.cartRom } ∧
      (∀ a : Word, a.toNat < 0x100 → boot[a.toNat]? = some (s.peek a)) ∧
      (∀ a : Word, 0x100 ≤ a.toNat → a.toNat < 0x8000 → cart[a.toNat]? = some (s.peek a)))
end

