-- ==== Sys2Proof/Laws/Memory.lean ====
section
/-! SUPPORT. Sparse storage: what a write leaves to read, and that every write keeps the canonical form and the bounds. -/

namespace Sys2Proof.Machine

variable {α : Type}

@[simp] theorem Cells.read_nil (d : α) (k : Nat) : Cells.read d [] k = d := rfl

variable [DecidableEq α]

/-- Below the first key nothing is listed. -/
theorem Cells.read_below (d : α) {m : Cells α} {k : Nat} (hw : Cells.wf d m) (hk : ∀ c ∈ m.head?, k < c.1) :
    Cells.read d m k = d := by
  induction m with
  | nil => rfl
  | cons c m ih =>
    obtain ⟨k', v'⟩ := c
    have hlt : k < k' := hk (k', v') rfl
    cases m with
    | nil => simp [Cells.read, Nat.ne_of_lt hlt]
    | cons c2 m =>
      obtain ⟨k2, v2⟩ := c2
      simp only [Cells.wf, Bool.and_eq_true, decide_eq_true_eq] at hw
      rw [Cells.read, if_neg (Nat.ne_of_lt hlt)]
      refine ih hw.2 ?_
      intro c hc
      simp only [List.head?_cons, Option.mem_def, Option.some.injEq] at hc
      subst hc
      exact Nat.lt_trans hlt hw.1.2

/-- The tail of a canonical list is canonical. -/
theorem Cells.wf_tail (d : α) {c : Nat × α} {m : Cells α} (hw : Cells.wf d (c :: m)) : Cells.wf d m := by
  obtain ⟨k, v⟩ := c
  cases m with
  | nil => rfl
  | cons c2 m =>
    obtain ⟨k2, v2⟩ := c2
    simp only [Cells.wf, Bool.and_eq_true] at hw
    exact hw.2

/-- What heads a canonical list lies below what heads its tail. -/
theorem Cells.wf_head_lt (d : α) {k : Nat} {v : α} {m : Cells α} (hw : Cells.wf d ((k, v) :: m)) :
    ∀ c ∈ m.head?, k < c.1 := by
  cases m with
  | nil => simp
  | cons c2 m =>
    obtain ⟨k2, v2⟩ := c2
    simp only [Cells.wf, Bool.and_eq_true, decide_eq_true_eq] at hw
    intro c hc
    simp only [List.head?_cons, Option.mem_def, Option.some.injEq] at hc
    subst hc
    exact hw.1.2

/-- A canonical list is built from a value that is listed, a key below the tail's, and a canonical tail. -/
theorem Cells.wf_cons (d : α) {k : Nat} {v : α} {m : Cells α} (hv : v ≠ d) (hk : ∀ c ∈ m.head?, k < c.1)
    (hw : Cells.wf d m) : Cells.wf d ((k, v) :: m) := by
  cases m with
  | nil => simpa [Cells.wf] using hv
  | cons c2 m =>
    obtain ⟨k2, v2⟩ := c2
    simp only [Cells.wf, Bool.and_eq_true, decide_eq_true_eq]
    exact ⟨⟨hv, hk _ rfl⟩, hw⟩

theorem Cells.wf_head_ne (d : α) {k : Nat} {v : α} {m : Cells α} (hw : Cells.wf d ((k, v) :: m)) : v ≠ d := by
  cases m with
  | nil => simpa [Cells.wf] using hw
  | cons c2 m =>
    obtain ⟨k2, v2⟩ := c2
    simp only [Cells.wf, Bool.and_eq_true, decide_eq_true_eq] at hw
    exact hw.1.1

/-- A write leaves every other key alone (no canonical form needed). -/
theorem Cells.read_write_other (d : α) (m : Cells α) {k j : Nat} (v : α) (h : j ≠ k) :
    Cells.read d (Cells.write d m k v) j = Cells.read d m j := by
  induction m with
  | nil => by_cases hv : v = d <;> simp [Cells.write, Cells.read, hv, h]
  | cons c m ih =>
    obtain ⟨k', v'⟩ := c
    by_cases h1 : k < k'
    · by_cases hv : v = d <;> simp [Cells.write, h1, hv, Cells.read, h]
    · by_cases h2 : k = k'
      · subst h2
        by_cases hv : v = d <;> simp [Cells.write, hv, Cells.read, h]
      · simp [Cells.write, h1, h2, Cells.read, ih]

/-- The key written reads back the value. -/
theorem Cells.read_write_same (d : α) {m : Cells α} (hw : Cells.wf d m) (k : Nat) (v : α) :
    Cells.read d (Cells.write d m k v) k = v := by
  induction m with
  | nil => by_cases hv : v = d <;> simp [Cells.write, Cells.read, hv]
  | cons c m ih =>
    obtain ⟨k', v'⟩ := c
    by_cases h1 : k < k'
    · by_cases hv : v = d
      · subst hv
        simp only [Cells.write, h1, if_true]
        refine Cells.read_below v hw ?_
        intro c hc
        simp only [List.head?_cons, Option.mem_def, Option.some.injEq] at hc
        subst hc
        exact h1
      · simp [Cells.write, h1, hv, Cells.read]
    · by_cases h2 : k = k'
      · subst h2
        by_cases hv : v = d
        · subst hv
          simp only [Cells.write, Nat.lt_irrefl, if_true, if_false]
          exact Cells.read_below v (Cells.wf_tail v hw) (Cells.wf_head_lt v hw)
        · simp [Cells.write, hv, Cells.read]
      · simp [Cells.write, h1, h2, Cells.read, ih (Cells.wf_tail d hw)]

/-- What heads the list after a write: the old head or the written key. -/
theorem Cells.head_write (d : α) {m : Cells α} (hw : Cells.wf d m) {b k : Nat} (v : α) (hb : ∀ c ∈ m.head?, b < c.1)
    (hk : b < k) : ∀ c ∈ (Cells.write d m k v).head?, b < c.1 := by
  cases m with
  | nil =>
    by_cases hv : v = d
    · simp [Cells.write, hv]
    · intro c hc; simp [Cells.write, hv] at hc; subst hc; exact hk
  | cons c m =>
    obtain ⟨k', v'⟩ := c
    have hb' : b < k' := hb (k', v') rfl
    have ht := Cells.wf_head_lt d hw
    intro c hc
    simp only [Cells.write] at hc
    split at hc
    · split at hc <;> (simp at hc; subst hc; assumption)
    · split at hc
      · split at hc
        · exact Nat.lt_trans hb' (ht c hc)
        · simp at hc; subst hc; exact hk
      · simp at hc; subst hc; exact hb'

/-- Every write keeps the canonical form. -/
theorem Cells.wf_write (d : α) {m : Cells α} (hw : Cells.wf d m) (k : Nat) (v : α) : Cells.wf d (Cells.write d m k v) := by
  induction m with
  | nil => by_cases hv : v = d <;> simp [Cells.write, Cells.wf, hv]
  | cons c m ih =>
    obtain ⟨k', v'⟩ := c
    have ht := Cells.wf_tail d hw
    have hh := Cells.wf_head_lt d hw
    have hne := Cells.wf_head_ne d hw
    simp only [Cells.write]
    split
    · rename_i h1
      split
      · exact hw
      · rename_i hv
        refine Cells.wf_cons d hv ?_ hw
        intro c hc; simp at hc; subst hc; exact h1
    · split
      · rename_i h2
        subst h2
        split
        · exact ht
        · rename_i hv; exact Cells.wf_cons d hv hh ht
      · rename_i h1 h2
        exact Cells.wf_cons d hne (Cells.head_write d ht v hh (by omega)) (ih ht)

/-- A write below the size keeps every key below the size. -/
theorem Cells.bounded_write (d : α) {m : Cells α} {n k : Nat} (hb : boundedBy n m) (hk : k < n) (v : α) :
    boundedBy n (Cells.write d m k v) := by
  induction m with
  | nil => by_cases hv : v = d <;> simp [Cells.write, boundedBy, hv, hk]
  | cons c m ih =>
    obtain ⟨k', v'⟩ := c
    simp only [boundedBy, List.all_cons, Bool.and_eq_true, decide_eq_true_eq] at hb ih ⊢
    simp only [Cells.write]
    split
    · split <;> simp [hb, hk]
    · split
      · split
        · exact hb.2
        · simp only [List.all_cons, Bool.and_eq_true, decide_eq_true_eq]
          exact ⟨hk, hb.2⟩
      · simp only [List.all_cons, Bool.and_eq_true, decide_eq_true_eq]
        exact ⟨hb.1, ih hb.2⟩

/-! ### Byte storage -/

theorem Memory.read_write_other (m : Memory) {k j : Nat} (v : Byte) (h : j ≠ k) :
    (Memory.write m k v).read j = m.read j := Cells.read_write_other _ m v h

theorem Memory.read_write_same {m : Memory} (hw : m.wf) (k : Nat) (v : Byte) : (Memory.write m k v).read k = v :=
  Cells.read_write_same _ hw k v

theorem Memory.wf_write {m : Memory} (hw : m.wf) (k : Nat) (v : Byte) : (Memory.write m k v).wf :=
  Cells.wf_write _ hw k v

/-- A list of bytes laid out in storage keeps the canonical form. -/
theorem Memory.wf_load {m : Memory} (hw : m.wf) (k : Nat) (bs : List Byte) : (Memory.load m k bs).wf := by
  induction bs generalizing m k with
  | nil => exact hw
  | cons b bs ih => exact ih (Memory.wf_write hw k b) (k + 1)

end Sys2Proof.Machine
end

