-- ==== Sys2Proof/Laws/State.lean ====
section
/-! SUPPORT. One lemma for each field of State after each named update, so that no later proof unfolds a record update. -/

namespace Sys2Proof.Machine

/-! ### advance -/

@[simp] theorem advance_regs (s : State) (len : Word) (n : Nat) : (s.advance len n).regs = s.regs := rfl
@[simp] theorem advance_flags (s : State) (len : Word) (n : Nat) : (s.advance len n).flags = s.flags := rfl
@[simp] theorem advance_pc (s : State) (len : Word) (n : Nat) : (s.advance len n).pc = s.pc + len := rfl
@[simp] theorem advance_sp (s : State) (len : Word) (n : Nat) : (s.advance len n).sp = s.sp := rfl
@[simp] theorem advance_ime (s : State) (len : Word) (n : Nat) : (s.advance len n).ime = s.ime := rfl
@[simp] theorem advance_imeScheduled (s : State) (len : Word) (n : Nat) : (s.advance len n).imeScheduled = s.imeScheduled := rfl
@[simp] theorem advance_halted (s : State) (len : Word) (n : Nat) : (s.advance len n).halted = s.halted := rfl
@[simp] theorem advance_stopped (s : State) (len : Word) (n : Nat) : (s.advance len n).stopped = s.stopped := rfl
@[simp] theorem advance_fault (s : State) (len : Word) (n : Nat) : (s.advance len n).fault = s.fault := rfl
@[simp] theorem advance_bootRomEnabled (s : State) (len : Word) (n : Nat) : (s.advance len n).bootRomEnabled = s.bootRomEnabled := rfl
@[simp] theorem advance_wram (s : State) (len : Word) (n : Nat) : (s.advance len n).wram = s.wram := rfl
@[simp] theorem advance_eram (s : State) (len : Word) (n : Nat) : (s.advance len n).eram = s.eram := rfl
@[simp] theorem advance_hram (s : State) (len : Word) (n : Nat) : (s.advance len n).hram = s.hram := rfl
@[simp] theorem advance_ppu (s : State) (len : Word) (n : Nat) : (s.advance len n).ppu = s.ppu := rfl
@[simp] theorem advance_ie (s : State) (len : Word) (n : Nat) : (s.advance len n).ie = s.ie := rfl
@[simp] theorem advance_iflags (s : State) (len : Word) (n : Nat) : (s.advance len n).iflags = s.iflags := rfl
@[simp] theorem advance_cfg (s : State) (len : Word) (n : Nat) : (s.advance len n).cfg = s.cfg := rfl
@[simp] theorem advance_ioLog (s : State) (len : Word) (n : Nat) : (s.advance len n).ioLog = s.ioLog := rfl
@[simp] theorem advance_extIrq (s : State) (len : Word) (n : Nat) : (s.advance len n).extIrq = s.extIrq := rfl
@[simp] theorem advance_cycles (s : State) (len : Word) (n : Nat) : (s.advance len n).cycles = n := rfl

/-! ### jumpTo -/

@[simp] theorem jumpTo_regs (s : State) (target : Word) (n : Nat) : (s.jumpTo target n).regs = s.regs := rfl
@[simp] theorem jumpTo_flags (s : State) (target : Word) (n : Nat) : (s.jumpTo target n).flags = s.flags := rfl
@[simp] theorem jumpTo_pc (s : State) (target : Word) (n : Nat) : (s.jumpTo target n).pc = target := rfl
@[simp] theorem jumpTo_sp (s : State) (target : Word) (n : Nat) : (s.jumpTo target n).sp = s.sp := rfl
@[simp] theorem jumpTo_ime (s : State) (target : Word) (n : Nat) : (s.jumpTo target n).ime = s.ime := rfl
@[simp] theorem jumpTo_imeScheduled (s : State) (target : Word) (n : Nat) : (s.jumpTo target n).imeScheduled = s.imeScheduled := rfl
@[simp] theorem jumpTo_halted (s : State) (target : Word) (n : Nat) : (s.jumpTo target n).halted = s.halted := rfl
@[simp] theorem jumpTo_stopped (s : State) (target : Word) (n : Nat) : (s.jumpTo target n).stopped = s.stopped := rfl
@[simp] theorem jumpTo_fault (s : State) (target : Word) (n : Nat) : (s.jumpTo target n).fault = s.fault := rfl
@[simp] theorem jumpTo_bootRomEnabled (s : State) (target : Word) (n : Nat) : (s.jumpTo target n).bootRomEnabled = s.bootRomEnabled := rfl
@[simp] theorem jumpTo_wram (s : State) (target : Word) (n : Nat) : (s.jumpTo target n).wram = s.wram := rfl
@[simp] theorem jumpTo_eram (s : State) (target : Word) (n : Nat) : (s.jumpTo target n).eram = s.eram := rfl
@[simp] theorem jumpTo_hram (s : State) (target : Word) (n : Nat) : (s.jumpTo target n).hram = s.hram := rfl
@[simp] theorem jumpTo_ppu (s : State) (target : Word) (n : Nat) : (s.jumpTo target n).ppu = s.ppu := rfl
@[simp] theorem jumpTo_ie (s : State) (target : Word) (n : Nat) : (s.jumpTo target n).ie = s.ie := rfl
@[simp] theorem jumpTo_iflags (s : State) (target : Word) (n : Nat) : (s.jumpTo target n).iflags = s.iflags := rfl
@[simp] theorem jumpTo_cfg (s : State) (target : Word) (n : Nat) : (s.jumpTo target n).cfg = s.cfg := rfl
@[simp] theorem jumpTo_ioLog (s : State) (target : Word) (n : Nat) : (s.jumpTo target n).ioLog = s.ioLog := rfl
@[simp] theorem jumpTo_extIrq (s : State) (target : Word) (n : Nat) : (s.jumpTo target n).extIrq = s.extIrq := rfl
@[simp] theorem jumpTo_cycles (s : State) (target : Word) (n : Nat) : (s.jumpTo target n).cycles = n := rfl

/-! ### raise -/

@[simp] theorem raise_regs (s : State) (f : Fatal) : (s.raise f).regs = s.regs := rfl
@[simp] theorem raise_flags (s : State) (f : Fatal) : (s.raise f).flags = s.flags := rfl
@[simp] theorem raise_pc (s : State) (f : Fatal) : (s.raise f).pc = s.pc := rfl
@[simp] theorem raise_sp (s : State) (f : Fatal) : (s.raise f).sp = s.sp := rfl
@[simp] theorem raise_ime (s : State) (f : Fatal) : (s.raise f).ime = s.ime := rfl
@[simp] theorem raise_imeScheduled (s : State) (f : Fatal) : (s.raise f).imeScheduled = s.imeScheduled := rfl
@[simp] theorem raise_halted (s : State) (f : Fatal) : (s.raise f).halted = s.halted := rfl
@[simp] theorem raise_stopped (s : State) (f : Fatal) : (s.raise f).stopped = s.stopped := rfl
@[simp] theorem raise_fault (s : State) (f : Fatal) : (s.raise f).fault = some f := rfl
@[simp] theorem raise_bootRomEnabled (s : State) (f : Fatal) : (s.raise f).bootRomEnabled = s.bootRomEnabled := rfl
@[simp] theorem raise_wram (s : State) (f : Fatal) : (s.raise f).wram = s.wram := rfl
@[simp] theorem raise_eram (s : State) (f : Fatal) : (s.raise f).eram = s.eram := rfl
@[simp] theorem raise_hram (s : State) (f : Fatal) : (s.raise f).hram = s.hram := rfl
@[simp] theorem raise_ppu (s : State) (f : Fatal) : (s.raise f).ppu = s.ppu := rfl
@[simp] theorem raise_ie (s : State) (f : Fatal) : (s.raise f).ie = s.ie := rfl
@[simp] theorem raise_iflags (s : State) (f : Fatal) : (s.raise f).iflags = s.iflags := rfl
@[simp] theorem raise_cfg (s : State) (f : Fatal) : (s.raise f).cfg = s.cfg := rfl
@[simp] theorem raise_ioLog (s : State) (f : Fatal) : (s.raise f).ioLog = s.ioLog := rfl
@[simp] theorem raise_extIrq (s : State) (f : Fatal) : (s.raise f).extIrq = s.extIrq := rfl
@[simp] theorem raise_cycles (s : State) (f : Fatal) : (s.raise f).cycles = 0 := rfl

/-! ### setReg -/

@[simp] theorem setReg_regs (s : State) (i : Reg8) (v : Byte) : (s.setReg i v).regs = s.regs.set i v := rfl
@[simp] theorem setReg_flags (s : State) (i : Reg8) (v : Byte) : (s.setReg i v).flags = s.flags := rfl
@[simp] theorem setReg_pc (s : State) (i : Reg8) (v : Byte) : (s.setReg i v).pc = s.pc := rfl
@[simp] theorem setReg_sp (s : State) (i : Reg8) (v : Byte) : (s.setReg i v).sp = s.sp := rfl
@[simp] theorem setReg_ime (s : State) (i : Reg8) (v : Byte) : (s.setReg i v).ime = s.ime := rfl
@[simp] theorem setReg_imeScheduled (s : State) (i : Reg8) (v : Byte) : (s.setReg i v).imeScheduled = s.imeScheduled := rfl
@[simp] theorem setReg_halted (s : State) (i : Reg8) (v : Byte) : (s.setReg i v).halted = s.halted := rfl
@[simp] theorem setReg_stopped (s : State) (i : Reg8) (v : Byte) : (s.setReg i v).stopped = s.stopped := rfl
@[simp] theorem setReg_fault (s : State) (i : Reg8) (v : Byte) : (s.setReg i v).fault = s.fault := rfl
@[simp] theorem setReg_bootRomEnabled (s : State) (i : Reg8) (v : Byte) : (s.setReg i v).bootRomEnabled = s.bootRomEnabled := rfl
@[simp] theorem setReg_wram (s : State) (i : Reg8) (v : Byte) : (s.setReg i v).wram = s.wram := rfl
@[simp] theorem setReg_eram (s : State) (i : Reg8) (v : Byte) : (s.setReg i v).eram = s.eram := rfl
@[simp] theorem setReg_hram (s : State) (i : Reg8) (v : Byte) : (s.setReg i v).hram = s.hram := rfl
@[simp] theorem setReg_ppu (s : State) (i : Reg8) (v : Byte) : (s.setReg i v).ppu = s.ppu := rfl
@[simp] theorem setReg_ie (s : State) (i : Reg8) (v : Byte) : (s.setReg i v).ie = s.ie := rfl
@[simp] theorem setReg_iflags (s : State) (i : Reg8) (v : Byte) : (s.setReg i v).iflags = s.iflags := rfl
@[simp] theorem setReg_cfg (s : State) (i : Reg8) (v : Byte) : (s.setReg i v).cfg = s.cfg := rfl
@[simp] theorem setReg_ioLog (s : State) (i : Reg8) (v : Byte) : (s.setReg i v).ioLog = s.ioLog := rfl
@[simp] theorem setReg_extIrq (s : State) (i : Reg8) (v : Byte) : (s.setReg i v).extIrq = s.extIrq := rfl
@[simp] theorem setReg_cycles (s : State) (i : Reg8) (v : Byte) : (s.setReg i v).cycles = s.cycles := rfl

/-! ### setHL -/

@[simp] theorem setHL_regs (s : State) (v : Word) : (s.setHL v).regs = s.regs.setHL v := rfl
@[simp] theorem setHL_flags (s : State) (v : Word) : (s.setHL v).flags = s.flags := rfl
@[simp] theorem setHL_pc (s : State) (v : Word) : (s.setHL v).pc = s.pc := rfl
@[simp] theorem setHL_sp (s : State) (v : Word) : (s.setHL v).sp = s.sp := rfl
@[simp] theorem setHL_ime (s : State) (v : Word) : (s.setHL v).ime = s.ime := rfl
@[simp] theorem setHL_imeScheduled (s : State) (v : Word) : (s.setHL v).imeScheduled = s.imeScheduled := rfl
@[simp] theorem setHL_halted (s : State) (v : Word) : (s.setHL v).halted = s.halted := rfl
@[simp] theorem setHL_stopped (s : State) (v : Word) : (s.setHL v).stopped = s.stopped := rfl
@[simp] theorem setHL_fault (s : State) (v : Word) : (s.setHL v).fault = s.fault := rfl
@[simp] theorem setHL_bootRomEnabled (s : State) (v : Word) : (s.setHL v).bootRomEnabled = s.bootRomEnabled := rfl
@[simp] theorem setHL_wram (s : State) (v : Word) : (s.setHL v).wram = s.wram := rfl
@[simp] theorem setHL_eram (s : State) (v : Word) : (s.setHL v).eram = s.eram := rfl
@[simp] theorem setHL_hram (s : State) (v : Word) : (s.setHL v).hram = s.hram := rfl
@[simp] theorem setHL_ppu (s : State) (v : Word) : (s.setHL v).ppu = s.ppu := rfl
@[simp] theorem setHL_ie (s : State) (v : Word) : (s.setHL v).ie = s.ie := rfl
@[simp] theorem setHL_iflags (s : State) (v : Word) : (s.setHL v).iflags = s.iflags := rfl
@[simp] theorem setHL_cfg (s : State) (v : Word) : (s.setHL v).cfg = s.cfg := rfl
@[simp] theorem setHL_ioLog (s : State) (v : Word) : (s.setHL v).ioLog = s.ioLog := rfl
@[simp] theorem setHL_extIrq (s : State) (v : Word) : (s.setHL v).extIrq = s.extIrq := rfl
@[simp] theorem setHL_cycles (s : State) (v : Word) : (s.setHL v).cycles = s.cycles := rfl

/-! ### setFlags -/

@[simp] theorem setFlags_regs (s : State) (f : Flags) : (s.setFlags f).regs = s.regs := rfl
@[simp] theorem setFlags_flags (s : State) (f : Flags) : (s.setFlags f).flags = f := rfl
@[simp] theorem setFlags_pc (s : State) (f : Flags) : (s.setFlags f).pc = s.pc := rfl
@[simp] theorem setFlags_sp (s : State) (f : Flags) : (s.setFlags f).sp = s.sp := rfl
@[simp] theorem setFlags_ime (s : State) (f : Flags) : (s.setFlags f).ime = s.ime := rfl
@[simp] theorem setFlags_imeScheduled (s : State) (f : Flags) : (s.setFlags f).imeScheduled = s.imeScheduled := rfl
@[simp] theorem setFlags_halted (s : State) (f : Flags) : (s.setFlags f).halted = s.halted := rfl
@[simp] theorem setFlags_stopped (s : State) (f : Flags) : (s.setFlags f).stopped = s.stopped := rfl
@[simp] theorem setFlags_fault (s : State) (f : Flags) : (s.setFlags f).fault = s.fault := rfl
@[simp] theorem setFlags_bootRomEnabled (s : State) (f : Flags) : (s.setFlags f).bootRomEnabled = s.bootRomEnabled := rfl
@[simp] theorem setFlags_wram (s : State) (f : Flags) : (s.setFlags f).wram = s.wram := rfl
@[simp] theorem setFlags_eram (s : State) (f : Flags) : (s.setFlags f).eram = s.eram := rfl
@[simp] theorem setFlags_hram (s : State) (f : Flags) : (s.setFlags f).hram = s.hram := rfl
@[simp] theorem setFlags_ppu (s : State) (f : Flags) : (s.setFlags f).ppu = s.ppu := rfl
@[simp] theorem setFlags_ie (s : State) (f : Flags) : (s.setFlags f).ie = s.ie := rfl
@[simp] theorem setFlags_iflags (s : State) (f : Flags) : (s.setFlags f).iflags = s.iflags := rfl
@[simp] theorem setFlags_cfg (s : State) (f : Flags) : (s.setFlags f).cfg = s.cfg := rfl
@[simp] theorem setFlags_ioLog (s : State) (f : Flags) : (s.setFlags f).ioLog = s.ioLog := rfl
@[simp] theorem setFlags_extIrq (s : State) (f : Flags) : (s.setFlags f).extIrq = s.extIrq := rfl
@[simp] theorem setFlags_cycles (s : State) (f : Flags) : (s.setFlags f).cycles = s.cycles := rfl

/-! ### setAF -/

@[simp] theorem setAF_regs (s : State) (v : Word) : (s.setAF v).regs = { s.regs with a := hiByte v } := rfl
@[simp] theorem setAF_flags (s : State) (v : Word) : (s.setAF v).flags = Flags.unpack (loByte v) := rfl
@[simp] theorem setAF_pc (s : State) (v : Word) : (s.setAF v).pc = s.pc := rfl
@[simp] theorem setAF_sp (s : State) (v : Word) : (s.setAF v).sp = s.sp := rfl
@[simp] theorem setAF_ime (s : State) (v : Word) : (s.setAF v).ime = s.ime := rfl
@[simp] theorem setAF_imeScheduled (s : State) (v : Word) : (s.setAF v).imeScheduled = s.imeScheduled := rfl
@[simp] theorem setAF_halted (s : State) (v : Word) : (s.setAF v).halted = s.halted := rfl
@[simp] theorem setAF_stopped (s : State) (v : Word) : (s.setAF v).stopped = s.stopped := rfl
@[simp] theorem setAF_fault (s : State) (v : Word) : (s.setAF v).fault = s.fault := rfl
@[simp] theorem setAF_bootRomEnabled (s : State) (v : Word) : (s.setAF v).bootRomEnabled = s.bootRomEnabled := rfl
@[simp] theorem setAF_wram (s : State) (v : Word) : (s.setAF v).wram = s.wram := rfl
@[simp] theorem setAF_eram (s : State) (v : Word) : (s.setAF v).eram = s.eram := rfl
@[simp] theorem setAF_hram (s : State) (v : Word) : (s.setAF v).hram = s.hram := rfl
@[simp] theorem setAF_ppu (s : State) (v : Word) : (s.setAF v).ppu = s.ppu := rfl
@[simp] theorem setAF_ie (s : State) (v : Word) : (s.setAF v).ie = s.ie := rfl
@[simp] theorem setAF_iflags (s : State) (v : Word) : (s.setAF v).iflags = s.iflags := rfl
@[simp] theorem setAF_cfg (s : State) (v : Word) : (s.setAF v).cfg = s.cfg := rfl
@[simp] theorem setAF_ioLog (s : State) (v : Word) : (s.setAF v).ioLog = s.ioLog := rfl
@[simp] theorem setAF_extIrq (s : State) (v : Word) : (s.setAF v).extIrq = s.extIrq := rfl
@[simp] theorem setAF_cycles (s : State) (v : Word) : (s.setAF v).cycles = s.cycles := rfl

/-! ### disableBootRom -/

@[simp] theorem disableBootRom_regs (s : State) : (s.disableBootRom).regs = s.regs := rfl
@[simp] theorem disableBootRom_flags (s : State) : (s.disableBootRom).flags = s.flags := rfl
@[simp] theorem disableBootRom_pc (s : State) : (s.disableBootRom).pc = s.pc := rfl
@[simp] theorem disableBootRom_sp (s : State) : (s.disableBootRom).sp = s.sp := rfl
@[simp] theorem disableBootRom_ime (s : State) : (s.disableBootRom).ime = s.ime := rfl
@[simp] theorem disableBootRom_imeScheduled (s : State) : (s.disableBootRom).imeScheduled = s.imeScheduled := rfl
@[simp] theorem disableBootRom_halted (s : State) : (s.disableBootRom).halted = s.halted := rfl
@[simp] theorem disableBootRom_stopped (s : State) : (s.disableBootRom).stopped = s.stopped := rfl
@[simp] theorem disableBootRom_fault (s : State) : (s.disableBootRom).fault = s.fault := rfl
@[simp] theorem disableBootRom_bootRomEnabled (s : State) : (s.disableBootRom).bootRomEnabled = false := rfl
@[simp] theorem disableBootRom_wram (s : State) : (s.disableBootRom).wram = s.wram := rfl
@[simp] theorem disableBootRom_eram (s : State) : (s.disableBootRom).eram = s.eram := rfl
@[simp] theorem disableBootRom_hram (s : State) : (s.disableBootRom).hram = s.hram := rfl
@[simp] theorem disableBootRom_ppu (s : State) : (s.disableBootRom).ppu = s.ppu := rfl
@[simp] theorem disableBootRom_ie (s : State) : (s.disableBootRom).ie = s.ie := rfl
@[simp] theorem disableBootRom_iflags (s : State) : (s.disableBootRom).iflags = s.iflags := rfl
@[simp] theorem disableBootRom_cfg (s : State) : (s.disableBootRom).cfg = s.cfg := rfl
@[simp] theorem disableBootRom_ioLog (s : State) : (s.disableBootRom).ioLog = s.ioLog := rfl
@[simp] theorem disableBootRom_extIrq (s : State) : (s.disableBootRom).extIrq = s.extIrq := rfl
@[simp] theorem disableBootRom_cycles (s : State) : (s.disableBootRom).cycles = s.cycles := rfl

/-! ### wake -/

@[simp] theorem wake_regs (s : State) : (s.wake).regs = s.regs := rfl
@[simp] theorem wake_flags (s : State) : (s.wake).flags = s.flags := rfl
@[simp] theorem wake_pc (s : State) : (s.wake).pc = s.pc := rfl
@[simp] theorem wake_sp (s : State) : (s.wake).sp = s.sp := rfl
@[simp] theorem wake_ime (s : State) : (s.wake).ime = s.ime := rfl
@[simp] theorem wake_imeScheduled (s : State) : (s.wake).imeScheduled = s.imeScheduled := rfl
@[simp] theorem wake_halted (s : State) : (s.wake).halted = s.halted := rfl
@[simp] theorem wake_stopped (s : State) : (s.wake).stopped = false := rfl
@[simp] theorem wake_fault (s : State) : (s.wake).fault = s.fault := rfl
@[simp] theorem wake_bootRomEnabled (s : State) : (s.wake).bootRomEnabled = s.bootRomEnabled := rfl
@[simp] theorem wake_wram (s : State) : (s.wake).wram = s.wram := rfl
@[simp] theorem wake_eram (s : State) : (s.wake).eram = s.eram := rfl
@[simp] theorem wake_hram (s : State) : (s.wake).hram = s.hram := rfl
@[simp] theorem wake_ppu (s : State) : (s.wake).ppu = s.ppu := rfl
@[simp] theorem wake_ie (s : State) : (s.wake).ie = s.ie := rfl
@[simp] theorem wake_iflags (s : State) : (s.wake).iflags = s.iflags := rfl
@[simp] theorem wake_cfg (s : State) : (s.wake).cfg = s.cfg := rfl
@[simp] theorem wake_ioLog (s : State) : (s.wake).ioLog = s.ioLog := rfl
@[simp] theorem wake_extIrq (s : State) : (s.wake).extIrq = s.extIrq := rfl
@[simp] theorem wake_cycles (s : State) : (s.wake).cycles = s.cycles := rfl

/-! ### wakeTest -/

@[simp] theorem wakeTest_regs (s : State) : (s.wakeTest).regs = s.regs := rfl
@[simp] theorem wakeTest_flags (s : State) : (s.wakeTest).flags = s.flags := rfl
@[simp] theorem wakeTest_pc (s : State) : (s.wakeTest).pc = s.pc := rfl
@[simp] theorem wakeTest_sp (s : State) : (s.wakeTest).sp = s.sp := rfl
@[simp] theorem wakeTest_ime (s : State) : (s.wakeTest).ime = s.ime := rfl
@[simp] theorem wakeTest_imeScheduled (s : State) : (s.wakeTest).imeScheduled = s.imeScheduled := rfl
@[simp] theorem wakeTest_halted (s : State) : (s.wakeTest).halted = (s.halted && s.pend == 0) := rfl
@[simp] theorem wakeTest_stopped (s : State) : (s.wakeTest).stopped = s.stopped := rfl
@[simp] theorem wakeTest_fault (s : State) : (s.wakeTest).fault = s.fault := rfl
@[simp] theorem wakeTest_bootRomEnabled (s : State) : (s.wakeTest).bootRomEnabled = s.bootRomEnabled := rfl
@[simp] theorem wakeTest_wram (s : State) : (s.wakeTest).wram = s.wram := rfl
@[simp] theorem wakeTest_eram (s : State) : (s.wakeTest).eram = s.eram := rfl
@[simp] theorem wakeTest_hram (s : State) : (s.wakeTest).hram = s.hram := rfl
@[simp] theorem wakeTest_ppu (s : State) : (s.wakeTest).ppu = s.ppu := rfl
@[simp] theorem wakeTest_ie (s : State) : (s.wakeTest).ie = s.ie := rfl
@[simp] theorem wakeTest_iflags (s : State) : (s.wakeTest).iflags = s.iflags := rfl
@[simp] theorem wakeTest_cfg (s : State) : (s.wakeTest).cfg = s.cfg := rfl
@[simp] theorem wakeTest_ioLog (s : State) : (s.wakeTest).ioLog = s.ioLog := rfl
@[simp] theorem wakeTest_extIrq (s : State) : (s.wakeTest).extIrq = s.extIrq := rfl
@[simp] theorem wakeTest_cycles (s : State) : (s.wakeTest).cycles = s.cycles := rfl

/-! ### flipIme -/

@[simp] theorem flipIme_regs (s : State) (p : Bool) : (flipIme p s).regs = s.regs := rfl
@[simp] theorem flipIme_flags (s : State) (p : Bool) : (flipIme p s).flags = s.flags := rfl
@[simp] theorem flipIme_pc (s : State) (p : Bool) : (flipIme p s).pc = s.pc := rfl
@[simp] theorem flipIme_sp (s : State) (p : Bool) : (flipIme p s).sp = s.sp := rfl
@[simp] theorem flipIme_ime (s : State) (p : Bool) : (flipIme p s).ime = (s.ime || (p && s.imeScheduled)) := rfl
@[simp] theorem flipIme_imeScheduled (s : State) (p : Bool) : (flipIme p s).imeScheduled = (s.imeScheduled && !p) := rfl
@[simp] theorem flipIme_halted (s : State) (p : Bool) : (flipIme p s).halted = s.halted := rfl
@[simp] theorem flipIme_stopped (s : State) (p : Bool) : (flipIme p s).stopped = s.stopped := rfl
@[simp] theorem flipIme_fault (s : State) (p : Bool) : (flipIme p s).fault = s.fault := rfl
@[simp] theorem flipIme_bootRomEnabled (s : State) (p : Bool) : (flipIme p s).bootRomEnabled = s.bootRomEnabled := rfl
@[simp] theorem flipIme_wram (s : State) (p : Bool) : (flipIme p s).wram = s.wram := rfl
@[simp] theorem flipIme_eram (s : State) (p : Bool) : (flipIme p s).eram = s.eram := rfl
@[simp] theorem flipIme_hram (s : State) (p : Bool) : (flipIme p s).hram = s.hram := rfl
@[simp] theorem flipIme_ppu (s : State) (p : Bool) : (flipIme p s).ppu = s.ppu := rfl
@[simp] theorem flipIme_ie (s : State) (p : Bool) : (flipIme p s).ie = s.ie := rfl
@[simp] theorem flipIme_iflags (s : State) (p : Bool) : (flipIme p s).iflags = s.iflags := rfl
@[simp] theorem flipIme_cfg (s : State) (p : Bool) : (flipIme p s).cfg = s.cfg := rfl
@[simp] theorem flipIme_ioLog (s : State) (p : Bool) : (flipIme p s).ioLog = s.ioLog := rfl
@[simp] theorem flipIme_extIrq (s : State) (p : Bool) : (flipIme p s).extIrq = s.extIrq := rfl
@[simp] theorem flipIme_cycles (s : State) (p : Bool) : (flipIme p s).cycles = s.cycles := rfl

/-! ### dropExt -/

@[simp] theorem dropExt_regs (s : State) : (s.dropExt).regs = s.regs := rfl
@[simp] theorem dropExt_flags (s : State) : (s.dropExt).flags = s.flags := rfl
@[simp] theorem dropExt_pc (s : State) : (s.dropExt).pc = s.pc := rfl
@[simp] theorem dropExt_sp (s : State) : (s.dropExt).sp = s.sp := rfl
@[simp] theorem dropExt_ime (s : State) : (s.dropExt).ime = s.ime := rfl
@[simp] theorem dropExt_imeScheduled (s : State) : (s.dropExt).imeScheduled = s.imeScheduled := rfl
@[simp] theorem dropExt_halted (s : State) : (s.dropExt).halted = s.halted := rfl
@[simp] theorem dropExt_stopped (s : State) : (s.dropExt).stopped = s.stopped := rfl
@[simp] theorem dropExt_fault (s : State) : (s.dropExt).fault = s.fault := rfl
@[simp] theorem dropExt_bootRomEnabled (s : State) : (s.dropExt).bootRomEnabled = s.bootRomEnabled := rfl
@[simp] theorem dropExt_wram (s : State) : (s.dropExt).wram = s.wram := rfl
@[simp] theorem dropExt_eram (s : State) : (s.dropExt).eram = s.eram := rfl
@[simp] theorem dropExt_hram (s : State) : (s.dropExt).hram = s.hram := rfl
@[simp] theorem dropExt_ppu (s : State) : (s.dropExt).ppu = s.ppu := rfl
@[simp] theorem dropExt_ie (s : State) : (s.dropExt).ie = s.ie := rfl
@[simp] theorem dropExt_iflags (s : State) : (s.dropExt).iflags = s.iflags := rfl
@[simp] theorem dropExt_cfg (s : State) : (s.dropExt).cfg = s.cfg := rfl
@[simp] theorem dropExt_ioLog (s : State) : (s.dropExt).ioLog = s.ioLog := rfl
@[simp] theorem dropExt_extIrq (s : State) : (s.dropExt).extIrq = s.extIrq.tail := rfl
@[simp] theorem dropExt_cycles (s : State) : (s.dropExt).cycles = s.cycles := rfl

/-! ### setPair -/

@[simp] theorem setPair_flags (s : State) (p : Pair) (v : Word) : (s.setPair p v).flags = s.flags := by cases p <;> rfl
@[simp] theorem setPair_pc (s : State) (p : Pair) (v : Word) : (s.setPair p v).pc = s.pc := by cases p <;> rfl
@[simp] theorem setPair_ime (s : State) (p : Pair) (v : Word) : (s.setPair p v).ime = s.ime := by cases p <;> rfl
@[simp] theorem setPair_imeScheduled (s : State) (p : Pair) (v : Word) : (s.setPair p v).imeScheduled = s.imeScheduled := by cases p <;> rfl
@[simp] theorem setPair_halted (s : State) (p : Pair) (v : Word) : (s.setPair p v).halted = s.halted := by cases p <;> rfl
@[simp] theorem setPair_stopped (s : State) (p : Pair) (v : Word) : (s.setPair p v).stopped = s.stopped := by cases p <;> rfl
@[simp] theorem setPair_fault (s : State) (p : Pair) (v : Word) : (s.setPair p v).fault = s.fault := by cases p <;> rfl
@[simp] theorem setPair_bootRomEnabled (s : State) (p : Pair) (v : Word) : (s.setPair p v).bootRomEnabled = s.bootRomEnabled := by cases p <;> rfl
@[simp] theorem setPair_wram (s : State) (p : Pair) (v : Word) : (s.setPair p v).wram = s.wram := by cases p <;> rfl
@[simp] theorem setPair_eram (s : State) (p : Pair) (v : Word) : (s.setPair p v).eram = s.eram := by cases p <;> rfl
@[simp] theorem setPair_hram (s : State) (p : Pair) (v : Word) : (s.setPair p v).hram = s.hram := by cases p <;> rfl
@[simp] theorem setPair_ppu (s : State) (p : Pair) (v : Word) : (s.setPair p v).ppu = s.ppu := by cases p <;> rfl
@[simp] theorem setPair_ie (s : State) (p : Pair) (v : Word) : (s.setPair p v).ie = s.ie := by cases p <;> rfl
@[simp] theorem setPair_iflags (s : State) (p : Pair) (v : Word) : (s.setPair p v).iflags = s.iflags := by cases p <;> rfl
@[simp] theorem setPair_cfg (s : State) (p : Pair) (v : Word) : (s.setPair p v).cfg = s.cfg := by cases p <;> rfl
@[simp] theorem setPair_ioLog (s : State) (p : Pair) (v : Word) : (s.setPair p v).ioLog = s.ioLog := by cases p <;> rfl
@[simp] theorem setPair_extIrq (s : State) (p : Pair) (v : Word) : (s.setPair p v).extIrq = s.extIrq := by cases p <;> rfl
@[simp] theorem setPair_cycles (s : State) (p : Pair) (v : Word) : (s.setPair p v).cycles = s.cycles := by cases p <;> rfl

/-! ### setStackPair -/

@[simp] theorem setStackPair_pc (s : State) (q : StackPair) (v : Word) : (s.setStackPair q v).pc = s.pc := by cases q <;> rfl
@[simp] theorem setStackPair_sp (s : State) (q : StackPair) (v : Word) : (s.setStackPair q v).sp = s.sp := by cases q <;> rfl
@[simp] theorem setStackPair_ime (s : State) (q : StackPair) (v : Word) : (s.setStackPair q v).ime = s.ime := by cases q <;> rfl
@[simp] theorem setStackPair_imeScheduled (s : State) (q : StackPair) (v : Word) : (s.setStackPair q v).imeScheduled = s.imeScheduled := by cases q <;> rfl
@[simp] theorem setStackPair_halted (s : State) (q : StackPair) (v : Word) : (s.setStackPair q v).halted = s.halted := by cases q <;> rfl
@[simp] theorem setStackPair_stopped (s : State) (q : StackPair) (v : Word) : (s.setStackPair q v).stopped = s.stopped := by cases q <;> rfl
@[simp] theorem setStackPair_fault (s : State) (q : StackPair) (v : Word) : (s.setStackPair q v).fault = s.fault := by cases q <;> rfl
@[simp] theorem setStackPair_bootRomEnabled (s : State) (q : StackPair) (v : Word) : (s.setStackPair q v).bootRomEnabled = s.bootRomEnabled := by cases q <;> rfl
@[simp] theorem setStackPair_wram (s : State) (q : StackPair) (v : Word) : (s.setStackPair q v).wram = s.wram := by cases q <;> rfl
@[simp] theorem setStackPair_eram (s : State) (q : StackPair) (v : Word) : (s.setStackPair q v).eram = s.eram := by cases q <;> rfl
@[simp] theorem setStackPair_hram (s : State) (q : StackPair) (v : Word) : (s.setStackPair q v).hram = s.hram := by cases q <;> rfl
@[simp] theorem setStackPair_ppu (s : State) (q : StackPair) (v : Word) : (s.setStackPair q v).ppu = s.ppu := by cases q <;> rfl
@[simp] theorem setStackPair_ie (s : State) (q : StackPair) (v : Word) : (s.setStackPair q v).ie = s.ie := by cases q <;> rfl
@[simp] theorem setStackPair_iflags (s : State) (q : StackPair) (v : Word) : (s.setStackPair q v).iflags = s.iflags := by cases q <;> rfl
@[simp] theorem setStackPair_cfg (s : State) (q : StackPair) (v : Word) : (s.setStackPair q v).cfg = s.cfg := by cases q <;> rfl
@[simp] theorem setStackPair_ioLog (s : State) (q : StackPair) (v : Word) : (s.setStackPair q v).ioLog = s.ioLog := by cases q <;> rfl
@[simp] theorem setStackPair_extIrq (s : State) (q : StackPair) (v : Word) : (s.setStackPair q v).extIrq = s.extIrq := by cases q <;> rfl
@[simp] theorem setStackPair_cycles (s : State) (q : StackPair) (v : Word) : (s.setStackPair q v).cycles = s.cycles := by cases q <;> rfl

/-! ### noteRead -/

@[simp] theorem noteRead_regs (s : State) (a : Word) : (s.noteRead a).regs = s.regs := by unfold State.noteRead; split <;> rfl
@[simp] theorem noteRead_flags (s : State) (a : Word) : (s.noteRead a).flags = s.flags := by unfold State.noteRead; split <;> rfl
@[simp] theorem noteRead_pc (s : State) (a : Word) : (s.noteRead a).pc = s.pc := by unfold State.noteRead; split <;> rfl
@[simp] theorem noteRead_sp (s : State) (a : Word) : (s.noteRead a).sp = s.sp := by unfold State.noteRead; split <;> rfl
@[simp] theorem noteRead_ime (s : State) (a : Word) : (s.noteRead a).ime = s.ime := by unfold State.noteRead; split <;> rfl
@[simp] theorem noteRead_imeScheduled (s : State) (a : Word) : (s.noteRead a).imeScheduled = s.imeScheduled := by unfold State.noteRead; split <;> rfl
@[simp] theorem noteRead_halted (s : State) (a : Word) : (s.noteRead a).halted = s.halted := by unfold State.noteRead; split <;> rfl
@[simp] theorem noteRead_stopped (s : State) (a : Word) : (s.noteRead a).stopped = s.stopped := by unfold State.noteRead; split <;> rfl
@[simp] theorem noteRead_fault (s : State) (a : Word) : (s.noteRead a).fault = s.fault := by unfold State.noteRead; split <;> rfl
@[simp] theorem noteRead_bootRomEnabled (s : State) (a : Word) : (s.noteRead a).bootRomEnabled = s.bootRomEnabled := by unfold State.noteRead; split <;> rfl
@[simp] theorem noteRead_wram (s : State) (a : Word) : (s.noteRead a).wram = s.wram := by unfold State.noteRead; split <;> rfl
@[simp] theorem noteRead_eram (s : State) (a : Word) : (s.noteRead a).eram = s.eram := by unfold State.noteRead; split <;> rfl
@[simp] theorem noteRead_hram (s : State) (a : Word) : (s.noteRead a).hram = s.hram := by unfold State.noteRead; split <;> rfl
@[simp] theorem noteRead_ppu (s : State) (a : Word) : (s.noteRead a).ppu = s.ppu := by unfold State.noteRead; split <;> rfl
@[simp] theorem noteRead_ie (s : State) (a : Word) : (s.noteRead a).ie = s.ie := by unfold State.noteRead; split <;> rfl
@[simp] theorem noteRead_iflags (s : State) (a : Word) : (s.noteRead a).iflags = s.iflags := by unfold State.noteRead; split <;> rfl
@[simp] theorem noteRead_cfg (s : State) (a : Word) : (s.noteRead a).cfg = s.cfg := by unfold State.noteRead; split <;> rfl
@[simp] theorem noteRead_extIrq (s : State) (a : Word) : (s.noteRead a).extIrq = s.extIrq := by unfold State.noteRead; split <;> rfl
@[simp] theorem noteRead_cycles (s : State) (a : Word) : (s.noteRead a).cycles = s.cycles := by unfold State.noteRead; split <;> rfl

end Sys2Proof.Machine
end

