-- ==== Sys2Proof/Laws/Bus.lean ====
section
/-! SUPPORT. What the bus operations can do, said once: a read changes nothing but the log of the external port, and a write either raises one of two fatal errors or makes one of the listed updates. -/

namespace Sys2Proof.Machine

/-- A read away from the external port has no effect. -/
theorem noteRead_of_ne (s : State) {a : Word} (h : s.target a ≠ .ioPort) : s.noteRead a = s := by
  unfold State.noteRead
  split
  · rename_i h'; exact absurd h' h
  · rfl

theorem noteRead_ioPort (s : State) {a : Word} (h : s.target a = .ioPort) :
    s.noteRead a = { s with ioLog := .read a :: s.ioLog } := by
  unfold State.noteRead
  rw [h]

/-- Routing depends on the overlay bit alone. -/
@[simp] theorem target_noteRead (s : State) (a b : Word) : (s.noteRead a).target b = s.target b := by
  simp [State.target]

/-- Whether a write to `a` goes through (R70, R85). -/
def State.accepts (s : State) (a : Word) : Bool :=
  match s.target a with
  | .bootRom _ | .cartRom _ => s.cfg.romWrite == .ignore
  | .unused => false
  | _ => true

/-- What an accepted write does: one update. -/
def State.written (s : State) (a : Word) (v : Byte) : State :=
  match s.target a with
  | .bootRom _ | .cartRom _ | .unused | .ly => s
  | .vram i => { s with ppu := s.ppu.writeVram i v }
  | .eram i => { s with eram := s.eram.write i v }
  | .wram i => { s with wram := s.wram.write i v }
  | .oam i => { s with ppu := s.ppu.writeOam i v }
  | .ifReg => { s with iflags := v.extractLsb' 0 5 }
  | .lcdc => { s with ppu := s.ppu.writeLcdc v }
  | .stat => { s with ppu := s.ppu.writeStat v }
  | .lyc => { s with ppu := s.ppu.writeLyc v }
  | .bootOff => if v = 0 then s else s.disableBootRom
  | .ioPort => { s with ioLog := .write a v :: s.ioLog }
  | .hram i => { s with hram := s.hram.write i v }
  | .ieReg => { s with ie := v.extractLsb' 0 5 }

/-- The fatal error of a write that is not accepted. -/
def State.writeFatal (s : State) (a : Word) : Fatal :=
  match s.target a with
  | .unused => .unusedWrite a
  | _ => .romWrite a

/-- A write said once: accepted, its one update; not accepted, the latch set and nothing else. -/
theorem writeByte_eq (a : Word) (v : Byte) (s : State) :
    writeByte a v s = if s.accepts a then .done (s.written a v) else .fatal (s.raise (s.writeFatal a)) := by
  unfold writeByte State.accepts State.written State.writeFatal
  cases s.target a with
  | bootRom i => cases s.cfg.romWrite <;> rfl
  | cartRom i => cases s.cfg.romWrite <;> rfl
  | _ => rfl

theorem writeByte_done {a : Word} {v : Byte} {s t : State} (h : writeByte a v s = .done t) :
    s.accepts a = true ∧ t = s.written a v := by
  rw [writeByte_eq] at h
  split at h
  · rename_i ha; exact ⟨ha, (Access.done.inj h).symm⟩
  · cases h

/-! What an accepted write leaves alone. -/

@[simp] theorem written_regs (s : State) (a : Word) (v : Byte) : (s.written a v).regs = s.regs := by
  unfold State.written; split <;> first | rfl | (split <;> rfl)
@[simp] theorem written_flags (s : State) (a : Word) (v : Byte) : (s.written a v).flags = s.flags := by
  unfold State.written; split <;> first | rfl | (split <;> rfl)
@[simp] theorem written_pc (s : State) (a : Word) (v : Byte) : (s.written a v).pc = s.pc := by
  unfold State.written; split <;> first | rfl | (split <;> rfl)
@[simp] theorem written_sp (s : State) (a : Word) (v : Byte) : (s.written a v).sp = s.sp := by
  unfold State.written; split <;> first | rfl | (split <;> rfl)
@[simp] theorem written_ime (s : State) (a : Word) (v : Byte) : (s.written a v).ime = s.ime := by
  unfold State.written; split <;> first | rfl | (split <;> rfl)
@[simp] theorem written_imeScheduled (s : State) (a : Word) (v : Byte) :
    (s.written a v).imeScheduled = s.imeScheduled := by
  unfold State.written; split <;> first | rfl | (split <;> rfl)
@[simp] theorem written_halted (s : State) (a : Word) (v : Byte) : (s.written a v).halted = s.halted := by
  unfold State.written; split <;> first | rfl | (split <;> rfl)
@[simp] theorem written_stopped (s : State) (a : Word) (v : Byte) : (s.written a v).stopped = s.stopped := by
  unfold State.written; split <;> first | rfl | (split <;> rfl)
@[simp] theorem written_fault (s : State) (a : Word) (v : Byte) : (s.written a v).fault = s.fault := by
  unfold State.written; split <;> first | rfl | (split <;> rfl)
@[simp] theorem written_cfg (s : State) (a : Word) (v : Byte) : (s.written a v).cfg = s.cfg := by
  unfold State.written; split <;> first | rfl | (split <;> rfl)
@[simp] theorem written_extIrq (s : State) (a : Word) (v : Byte) : (s.written a v).extIrq = s.extIrq := by
  unfold State.written; split <;> first | rfl | (split <;> rfl)
@[simp] theorem written_cycles (s : State) (a : Word) (v : Byte) : (s.written a v).cycles = s.cycles := by
  unfold State.written; split <;> first | rfl | (split <;> rfl)
@[simp] theorem written_ppu_mode (s : State) (a : Word) (v : Byte) : (s.written a v).ppu.mode = s.ppu.mode := by
  unfold State.written; split <;> first | rfl | (split <;> rfl)
@[simp] theorem written_ppu_cycles (s : State) (a : Word) (v : Byte) :
    (s.written a v).ppu.cycles = s.ppu.cycles := by
  unfold State.written; split <;> first | rfl | (split <;> rfl)
@[simp] theorem written_ppu_ly (s : State) (a : Word) (v : Byte) : (s.written a v).ppu.ly = s.ppu.ly := by
  unfold State.written; split <;> first | rfl | (split <;> rfl)

/-- The overlay bit after a write: cleared by a non-zero byte at BOOTOFF, else left (R47, R87). -/
theorem written_bootRomEnabled (s : State) (a : Word) (v : Byte) :
    (s.written a v).bootRomEnabled = (s.bootRomEnabled && !((s.target a == .bootOff) && (v != 0))) := by
  unfold State.written
  cases ha : s.target a with
  | bootOff =>
    by_cases hv : v = 0
    · subst hv; simp
    · simp only [if_neg hv, State.disableBootRom]
      simpa using fun _ => hv
  | _ => simp

/-- The bound on the offset a target carries: the size of the array it names (R33 to R37, R61). -/
def Target.Bounded : Target → Prop
  | .bootRom i => i < 0x100
  | .cartRom i => i < 0x8000
  | .vram i | .eram i | .wram i => i < 0x2000
  | .oam i => i < 0xA0
  | .hram i => i < 0x7F
  | _ => True

theorem routeIo_bounded (n : Nat) : (routeIo n).Bounded := by
  unfold routeIo
  repeat' split
  all_goals trivial

/-- Routing gives an offset inside the array it names (R61). -/
theorem route_bounded (o : Bool) (a : Word) : (route o a).Bounded := by
  have h := a.isLt
  unfold route
  simp only
  repeat' split
  all_goals first | exact routeIo_bounded _ | exact True.intro | skip
  all_goals simp only [Target.Bounded, Bool.and_eq_true, decide_eq_true_eq] at *
  all_goals omega

theorem routeIo_ne_unused (n : Nat) : routeIo n ≠ .unused ∧ (∀ i, routeIo n ≠ .bootRom i) ∧ ∀ i, routeIo n ≠ .cartRom i := by
  unfold routeIo
  repeat' split
  all_goals simp

/-- The unused range, and nothing else, is routed nowhere (R70). -/
theorem route_unused_iff (o : Bool) (a : Word) : route o a = .unused ↔ 0xFEA0 ≤ a.toNat ∧ a.toNat ≤ 0xFEFF := by
  have h := a.isLt
  unfold route
  simp only
  repeat' split
  all_goals simp_all [(routeIo_ne_unused _).1]
  all_goals omega

/-- The first half of the map, and nothing else, is ROM (R62 to R64). -/
theorem route_rom_iff (o : Bool) (a : Word) :
    ((∃ i, route o a = .bootRom i) ∨ ∃ i, route o a = .cartRom i) ↔ a.toNat < 0x8000 := by
  have h := a.isLt
  unfold route
  simp only
  repeat' split
  all_goals simp_all [(routeIo_ne_unused _).2]
  all_goals omega

/-- Address by address, whether a write is accepted (R70, R85). -/
theorem accepts_iff (s : State) (a : Word) :
    s.accepts a = true ↔
      ¬(0xFEA0 ≤ a.toNat ∧ a.toNat ≤ 0xFEFF) ∧ (a.toNat < 0x8000 → s.cfg.romWrite = .ignore) := by
  rw [← route_unused_iff s.bootRomEnabled, ← route_rom_iff s.bootRomEnabled]
  unfold State.accepts State.target
  cases route s.bootRomEnabled a <;> simp

end Sys2Proof.Machine
end

