-- ==== Sys2Proof/Laws/Cycles.lean ====
section
/-! SUPPORT. The cycle counts: what a table answers, that tables reach every function, and the bounds of the table of R395. -/

namespace Sys2Proof

open Machine

/-- The default table is R395's. -/
@[simp] theorem CycleTable.count_default (k : Kind) (taken : Bool) : ({} : CycleTable).count k taken = k.tableCycles taken := rfl

/-- What is listed counts, the first entry for a pair before a later one. -/
theorem CycleTable.count_cons (x : Kind × Bool) (n : Nat) (l : List ((Kind × Bool) × Nat)) (d i : Nat) (k : Kind) (taken : Bool) :
    (CycleTable.mk ((x, n) :: l) d i).count k taken = if (k, taken) = x then n else (CycleTable.mk l d i).count k taken := by
  unfold CycleTable.count
  rw [List.lookup_cons]
  by_cases h : (k, taken) = x
  · simp [h]
  · simp [h, beq_eq_false_iff_ne.mpr h]

/-- Tables reach every function of instruction and taken: on any list of pairs (the instructions being finitely many, on all
of them) some table answers what the function does. -/
theorem CycleTable.count_of_list (f : Kind → Bool → Nat) (l : List (Kind × Bool)) (d i : Nat) (k : Kind) (taken : Bool)
    (h : (k, taken) ∈ l) : (CycleTable.mk (l.map fun x => (x, f x.1 x.2)) d i).count k taken = f k taken := by
  induction l with
  | nil => cases h
  | cons x l ih =>
    rw [List.map_cons, count_cons]
    split
    · rename_i e; rw [← e]
    · rename_i e; exact ih ((List.mem_cons.mp h).resolve_left e)

/-- R395: "the greatest 24". -/
theorem Machine.Kind.tableCycles_le (k : Kind) (taken : Bool) : k.tableCycles taken ≤ 24 := by
  unfold Machine.Kind.tableCycles
  split <;> (try split) <;> omega

/-- R395: "Every count is a multiple of 4". -/
theorem Machine.Kind.tableCycles_mod (k : Kind) (taken : Bool) : k.tableCycles taken % 4 = 0 := by
  unfold Machine.Kind.tableCycles
  split <;> (try split) <;> rfl

/-- A count depends on the parameters only. -/
theorem Machine.State.count_congr {s t : State} (h : t.cfg = s.cfg) (k : Kind) (taken : Bool) : t.count k taken = s.count k taken := by
  unfold Machine.State.count
  rw [h]

/-- Under the default table a count is R395's. -/
theorem Machine.State.count_of_default {s : State} (h : s.cfg.cycles = {}) (k : Kind) (taken : Bool) :
    s.count k taken = k.tableCycles taken := by
  unfold Machine.State.count
  rw [h]
  rfl

end Sys2Proof
end

