-- ==== Sys2Proof/Laws/Exec.lean ====
section
/-! SUPPORT. What executing an instruction can do, said once: the meaning of an instruction is the meaning of its kind, and whatever is kept by updates of the register side and by accepted bus writes is kept by every instruction and every step. -/

namespace Sys2Proof.Machine

/-- The meaning of a kind. -/
def runKind : Kind → State → Result
  | .ldRegReg dst src, s => loadRegReg dst src s
  | .ldRegImm dst n, s => loadRegImm dst n s
  | .ldRegHL dst, s => loadRegHL dst s
  | .ldHLReg r, s => storeHLReg r s
  | .ldHLImm n, s => storeHLImm n s
  | .ldAPair p, s => loadAPair p s
  | .ldPairA p, s => storePairA p s
  | .ldAHLPost k, s => loadAHLPost k s
  | .ldHLPostA k, s => storeHLPostA k s
  | .ldhImmA n, s => storeHighImm n s
  | .ldhAImm n, s => loadHighImm n s
  | .ldhCA, s => storeHighC s
  | .ldhAC, s => loadHighC s
  | .ldAbsA nn, s => storeAbsA nn s
  | .ldAAbs nn, s => loadAAbs nn s
  | .ldPairImm p nn, s => loadPairImm p nn s
  | .ldAbsSP nn, s => storeAbsSP nn s
  | .ldSPHL, s => loadSPHL s
  | .ldHLSPe e, s => loadHLSPe e s
  | .push q, s => pushPair q s
  | .pop q, s => popPair q s
  | .addSPe e, s => addSPImm e s
  | .alu k v, s => aluOp k v s
  | .inc8 d, s => incLoc d s
  | .dec8 d, s => decLoc d s
  | .daa, s => decimalAdjust s
  | .cpl, s => complementA s
  | .scf, s => setCarry s
  | .ccf, s => complementCarry s
  | .addHL p, s => addHLPair p s
  | .incPair p, s => incPairOp p s
  | .decPair p, s => decPairOp p s
  | .accRotate k, s => accRotateOp k s
  | .cbRotate k d, s => cbRotateOp k d s
  | .bitTest n d, s => bitTestOp n d s
  | .bitReset n d, s => bitResetOp n d s
  | .bitSet n d, s => bitSetOp n d s
  | .jp nn, s => jumpAbs nn s
  | .jpCond cc nn, s => jumpAbsCond cc nn s
  | .jpHL, s => jumpHL s
  | .jr e, s => jumpRel e s
  | .jrCond cc e, s => jumpRelCond cc e s
  | .call nn, s => callAbs nn s
  | .callCond cc nn, s => callAbsCond cc nn s
  | .ret, s => returnOp s
  | .retCond cc, s => returnCond cc s
  | .reti, s => returnInterrupt s
  | .rst y, s => restart y s
  | .nop, s => noOperation s
  | .halt, s => haltEngine s
  | .stop pad, s => stopEngine pad s
  | .di, s => disableInterrupts s
  | .ei, s => enableInterrupts s
  | .cbPrefix op2, s => cbExecute op2 s
  | .illegal op, s => illegalOpcode op s

/-- The meaning of an instruction is the meaning of its kind. -/
theorem exec_eq_runKind (i : Instr) (s : State) : exec i s = runKind i.kind s := by
  cases i <;> rfl

/-! ## What every instruction keeps -/

/-- The state an access leaves, whether it went through or raised a fatal error. -/
def Access.state : Access → State
  | .done s => s
  | .fatal s => s

theorem Access.result_eq (r : Access) : r.result = .next r.state := by cases r <;> rfl

/-- Two states that agree on everything behind the bus but the external port: only registers, flags, the execution state
and the port's log may differ. -/
structure SameBus (s t : State) : Prop where
  bootRomEnabled : t.bootRomEnabled = s.bootRomEnabled
  wram : t.wram = s.wram
  eram : t.eram = s.eram
  hram : t.hram = s.hram
  ppu : t.ppu = s.ppu
  ie : t.ie = s.ie
  iflags : t.iflags = s.iflags
  cfg : t.cfg = s.cfg
  extIrq : t.extIrq = s.extIrq

theorem SameBus.rfl {s : State} : SameBus s s := ⟨by simp, by simp, by simp, by simp, by simp, by simp, by simp, by simp, by simp⟩

theorem SameBus.trans {s t u : State} (h : SameBus s t) (k : SameBus t u) : SameBus s u :=
  ⟨k.1.trans h.1, k.2.trans h.2, k.3.trans h.3, k.4.trans h.4, k.5.trans h.5, k.6.trans h.6, k.7.trans h.7, k.8.trans h.8,
    k.9.trans h.9⟩

/-- A property is kept by everything an instruction is made of: changes away from the bus, and accepted writes. -/
structure Stable (P : State → Prop) : Prop where
  core : ∀ {s t}, SameBus s t → P s → P t
  write : ∀ {s} a v, s.accepts a = true → P s → P (s.written a v)

variable {P : State → Prop}

theorem SameBus.noteRead (s : State) (a : Word) : SameBus s (s.noteRead a) := by
  constructor <;> simp

theorem SameBus.setReg (s : State) (i : Reg8) (v : Byte) : SameBus s (s.setReg i v) := by
  constructor <;> rfl

theorem SameBus.setHL (s : State) (v : Word) : SameBus s (s.setHL v) := by
  constructor <;> rfl

theorem SameBus.setFlags (s : State) (f : Flags) : SameBus s (s.setFlags f) := by
  constructor <;> rfl

theorem SameBus.setPair (s : State) (p : Pair) (v : Word) : SameBus s (s.setPair p v) := by
  cases p <;> constructor <;> rfl

theorem SameBus.setStackPair (s : State) (q : StackPair) (v : Word) : SameBus s (s.setStackPair q v) := by
  cases q <;> constructor <;> rfl

theorem SameBus.advance (s : State) (len : Word) (n : Nat) : SameBus s (s.advance len n) := by
  constructor <;> rfl

theorem SameBus.jumpTo (s : State) (target : Word) (n : Nat) : SameBus s (s.jumpTo target n) := by
  constructor <;> rfl

theorem SameBus.raise (s : State) (f : Fatal) : SameBus s (s.raise f) := by
  constructor <;> rfl

theorem SameBus.setSp (s : State) (v : Word) : SameBus s { s with sp := v } := by
  constructor <;> rfl

theorem SameBus.readLoc (d : Loc8) (s : State) : SameBus s (readLoc d s).2 := by
  cases d
  · exact SameBus.rfl
  · exact SameBus.noteRead _ _

theorem SameBus.readSrc (v : Src8) (s : State) : SameBus s (readSrc v s).2 := by
  cases v
  · exact SameBus.rfl
  · exact SameBus.noteRead _ _
  · exact SameBus.rfl

theorem SameBus.readWord (a : Word) (s : State) : SameBus s (readWord a s).2 :=
  (SameBus.noteRead _ _).trans (SameBus.noteRead _ _)

theorem SameBus.pop16 (s : State) : SameBus s (pop16 s).2 :=
  (SameBus.readWord _ _).trans (by constructor <;> rfl)

theorem Stable.writeByte (h : Stable P) {s : State} (a : Word) (v : Byte) (hp : P s) : P (writeByte a v s).state := by
  rw [writeByte_eq]
  split
  · rename_i ha; exact h.write a v ha hp
  · exact h.core (SameBus.raise _ _) hp

theorem Stable.writeLoc (h : Stable P) {s : State} (d : Loc8) (v : Byte) (hp : P s) : P (writeLoc d v s).state := by
  cases d
  · exact h.core (SameBus.setReg _ _ _) hp
  · exact h.writeByte _ _ hp

theorem Stable.andThen (_h : Stable P) {r : Access} {k : State → Access} (hp : P r.state)
    (hk : ∀ s, P s → P (k s).state) : P (r.andThen k).state := by
  cases r
  · exact hk _ hp
  · exact hp

theorem Stable.map (h : Stable P) {r : Access} {k : State → State} (hp : P r.state) (hk : ∀ s, SameBus s (k s)) :
    P (r.map k).state := by
  cases r
  · exact h.core (hk _) hp
  · exact hp

theorem Stable.writeWord (h : Stable P) {s : State} (a v : Word) (hp : P s) : P (writeWord a v s).state :=
  h.andThen (h.writeByte _ _ hp) fun _ hs => h.writeByte _ _ hs

theorem Stable.push16 (h : Stable P) {s : State} (v : Word) (hp : P s) : P (push16 v s).state :=
  h.map (h.andThen (h.writeByte _ _ hp) fun _ hs => h.writeByte _ _ hs) fun _ => SameBus.setSp _ _

theorem Stable.storeTo (h : Stable P) {s : State} (a : Word) (v : Byte) (len : Word) (n : Nat) (hp : P s) :
    ∃ t, storeTo a v len n s = .next t ∧ P t :=
  ⟨_, Access.result_eq _, h.map (h.writeByte _ _ hp) fun _ => SameBus.advance _ _ _⟩

theorem Stable.pushAndJump (h : Stable P) {s : State} (back target : Word) (n : Nat) (hp : P s) :
    ∃ t, pushAndJump back target n s = .next t ∧ P t :=
  ⟨_, Access.result_eq _, h.map (h.push16 _ hp) fun _ => SameBus.jumpTo _ _ _⟩

/-- An update away from the bus followed by the advance of pc. -/
theorem Stable.plain (h : Stable P) {s t : State} (hp : P s) (hs : SameBus s t) : ∃ u, Host.Outcome.next t = (.next u : Result) ∧ P u :=
  ⟨t, rfl, h.core hs hp⟩

theorem Stable.cbExecute (h : Stable P) {s : State} (op2 : Byte) (hp : P s) : ∃ t, cbExecute op2 s = .next t ∧ P t := by
  unfold Machine.cbExecute
  simp only
  split
  · exact ⟨_, Access.result_eq _, h.map (h.writeLoc _ _ (h.core (SameBus.readLoc _ _) hp))
      fun _ => (SameBus.setFlags _ _).trans (SameBus.advance _ _ _)⟩
  · exact h.plain hp ((SameBus.readLoc _ _).trans ((SameBus.setFlags _ _).trans (SameBus.advance _ _ _)))
  · exact ⟨_, Access.result_eq _, h.map (h.writeLoc _ _ (h.core (SameBus.readLoc _ _) hp))
      fun _ => SameBus.advance _ _ _⟩
  · exact ⟨_, Access.result_eq _, h.map (h.writeLoc _ _ (h.core (SameBus.readLoc _ _) hp))
      fun _ => SameBus.advance _ _ _⟩

/-- Every instruction answers a next state, and keeps every stable property. -/
theorem Stable.runKind (h : Stable P) (k : Kind) {s : State} (hp : P s) : ∃ t, runKind k s = .next t ∧ P t := by
  cases k with
  | ldRegReg dst r => exact h.plain hp ((SameBus.setReg _ _ _).trans (SameBus.advance _ _ _))
  | ldRegImm dst n => exact h.plain hp ((SameBus.setReg _ _ _).trans (SameBus.advance _ _ _))
  | ldRegHL dst => exact h.plain hp ((SameBus.noteRead _ _).trans ((SameBus.setReg _ _ _).trans (SameBus.advance _ _ _)))
  | ldHLReg r => exact h.storeTo _ _ _ _ hp
  | ldHLImm n => exact h.storeTo _ _ _ _ hp
  | ldAPair p => exact h.plain hp ((SameBus.noteRead _ _).trans ((SameBus.setReg _ _ _).trans (SameBus.advance _ _ _)))
  | ldPairA p => exact h.storeTo _ _ _ _ hp
  | ldAHLPost k => exact h.plain hp ((SameBus.noteRead _ _).trans ((SameBus.setReg _ _ _).trans
      ((SameBus.setHL _ _).trans (SameBus.advance _ _ _))))
  | ldHLPostA k => exact ⟨_, Access.result_eq _, h.map (h.writeByte _ _ hp)
      fun _ => (SameBus.setHL _ _).trans (SameBus.advance _ _ _)⟩
  | ldhImmA n => exact h.storeTo _ _ _ _ hp
  | ldhAImm n => exact h.plain hp ((SameBus.noteRead _ _).trans ((SameBus.setReg _ _ _).trans (SameBus.advance _ _ _)))
  | ldhCA => exact h.storeTo _ _ _ _ hp
  | ldhAC => exact h.plain hp ((SameBus.noteRead _ _).trans ((SameBus.setReg _ _ _).trans (SameBus.advance _ _ _)))
  | ldAbsA nn => exact h.storeTo _ _ _ _ hp
  | ldAAbs nn => exact h.plain hp ((SameBus.noteRead _ _).trans ((SameBus.setReg _ _ _).trans (SameBus.advance _ _ _)))
  | ldPairImm p nn => exact h.plain hp ((SameBus.setPair _ _ _).trans (SameBus.advance _ _ _))
  | ldAbsSP nn => exact ⟨_, Access.result_eq _, h.map (h.writeWord _ _ hp) fun _ => SameBus.advance _ _ _⟩
  | ldSPHL => exact h.plain hp ((SameBus.setSp _ _).trans (SameBus.advance _ _ _))
  | ldHLSPe e => exact h.plain hp ((SameBus.setHL _ _).trans ((SameBus.setFlags _ _).trans (SameBus.advance _ _ _)))
  | push q => exact ⟨_, Access.result_eq _, h.map (h.push16 _ hp) fun _ => SameBus.advance _ _ _⟩
  | pop q => exact h.plain hp ((SameBus.pop16 _).trans ((SameBus.setStackPair _ _ _).trans (SameBus.advance _ _ _)))
  | addSPe e => exact h.plain hp (by constructor <;> rfl)
  | alu k v => exact h.plain hp ((SameBus.readSrc _ _).trans ((SameBus.setReg _ _ _).trans
      ((SameBus.setFlags _ _).trans (SameBus.advance _ _ _))))
  | inc8 d => exact ⟨_, Access.result_eq _, h.map (h.writeLoc _ _ (h.core (SameBus.readLoc _ _) hp))
      fun _ => (SameBus.setFlags _ _).trans (SameBus.advance _ _ _)⟩
  | dec8 d => exact ⟨_, Access.result_eq _, h.map (h.writeLoc _ _ (h.core (SameBus.readLoc _ _) hp))
      fun _ => (SameBus.setFlags _ _).trans (SameBus.advance _ _ _)⟩
  | daa => exact h.plain hp ((SameBus.setReg _ _ _).trans ((SameBus.setFlags _ _).trans (SameBus.advance _ _ _)))
  | cpl => exact h.plain hp ((SameBus.setReg _ _ _).trans ((SameBus.setFlags _ _).trans (SameBus.advance _ _ _)))
  | scf => exact h.plain hp ((SameBus.setFlags _ _).trans (SameBus.advance _ _ _))
  | ccf => exact h.plain hp ((SameBus.setFlags _ _).trans (SameBus.advance _ _ _))
  | addHL p => exact h.plain hp ((SameBus.setHL _ _).trans ((SameBus.setFlags _ _).trans (SameBus.advance _ _ _)))
  | incPair p => exact h.plain hp ((SameBus.setPair _ _ _).trans (SameBus.advance _ _ _))
  | decPair p => exact h.plain hp ((SameBus.setPair _ _ _).trans (SameBus.advance _ _ _))
  | accRotate k => exact h.plain hp ((SameBus.setReg _ _ _).trans ((SameBus.setFlags _ _).trans (SameBus.advance _ _ _)))
  | cbRotate k d => exact ⟨_, Access.result_eq _, h.map (h.writeLoc _ _ (h.core (SameBus.readLoc _ _) hp))
      fun _ => (SameBus.setFlags _ _).trans (SameBus.advance _ _ _)⟩
  | bitTest n d => exact h.plain hp ((SameBus.readLoc _ _).trans ((SameBus.setFlags _ _).trans (SameBus.advance _ _ _)))
  | bitReset n d => exact ⟨_, Access.result_eq _, h.map (h.writeLoc _ _ (h.core (SameBus.readLoc _ _) hp))
      fun _ => SameBus.advance _ _ _⟩
  | bitSet n d => exact ⟨_, Access.result_eq _, h.map (h.writeLoc _ _ (h.core (SameBus.readLoc _ _) hp))
      fun _ => SameBus.advance _ _ _⟩
  | jp nn => exact h.plain hp (SameBus.jumpTo _ _ _)
  | jpCond cc nn =>
    simp only [Machine.runKind, jumpAbsCond]
    split
    · exact h.plain hp (SameBus.jumpTo _ _ _)
    · exact h.plain hp (SameBus.advance _ _ _)
  | jpHL => exact h.plain hp (SameBus.jumpTo _ _ _)
  | jr e => exact h.plain hp (SameBus.jumpTo _ _ _)
  | jrCond cc e =>
    simp only [Machine.runKind, jumpRelCond]
    split
    · exact h.plain hp (SameBus.jumpTo _ _ _)
    · exact h.plain hp (SameBus.advance _ _ _)
  | call nn => exact h.pushAndJump _ _ _ hp
  | callCond cc nn =>
    simp only [Machine.runKind, callAbsCond]
    split
    · exact h.pushAndJump _ _ _ hp
    · exact h.plain hp (SameBus.advance _ _ _)
  | ret => exact h.plain hp ((SameBus.pop16 _).trans (SameBus.jumpTo _ _ _))
  | retCond cc =>
    simp only [Machine.runKind, returnCond]
    split
    · exact h.plain hp ((SameBus.pop16 _).trans (SameBus.jumpTo _ _ _))
    · exact h.plain hp (SameBus.advance _ _ _)
  | reti => exact h.plain hp ((SameBus.pop16 _).trans (by constructor <;> rfl))
  | rst y => exact h.pushAndJump _ _ _ hp
  | nop => exact h.plain hp (SameBus.advance _ _ _)
  | halt => exact h.plain hp (by constructor <;> rfl)
  | stop pad => exact h.plain hp (by constructor <;> rfl)
  | di => exact h.plain hp (by constructor <;> rfl)
  | ei => exact h.plain hp (by constructor <;> rfl)
  | cbPrefix op2 => exact h.cbExecute _ hp
  | illegal op => exact h.plain hp (SameBus.raise _ _)

theorem Stable.exec (h : Stable P) (i : Instr) {s : State} (hp : P s) : ∃ t, exec i s = .next t ∧ P t := by
  rw [exec_eq_runKind]
  exact h.runKind _ hp

theorem Stable.exec_next (h : Stable P) {i : Instr} {s t : State} (he : Machine.exec i s = .next t) (hp : P s) : P t := by
  obtain ⟨u, hu, hpu⟩ := h.exec i hp
  rw [he] at hu
  cases hu
  exact hpu

/-! ## What every step keeps -/

theorem SameBus.fetch (s : State) : SameBus s (fetch s).2 := by
  unfold Machine.fetch
  simp only
  split
  · exact SameBus.noteRead _ _
  · exact (SameBus.noteRead _ _).trans (SameBus.noteRead _ _)
  · exact (SameBus.noteRead _ _).trans ((SameBus.noteRead _ _).trans (SameBus.noteRead _ _))

/-- What step 5 does: the PPU advances and requests are or-ed into IF. -/
structure StableStep (P : State → Prop) : Prop extends Stable P where
  finish : ∀ {s} ext, P s → P (finishStep ext s)
  acknowledge : ∀ {s} n, P s → P { s with iflags := n }
  drop : ∀ {s}, P s → P s.dropExt

theorem StableStep.dispatch (h : StableStep P) {s : State} (ext : IntSet) (hp : P s) :
    ∃ t, dispatchStep ext s = .next t ∧ P t := by
  have h1 : P (takeInterrupt s.pend s).state :=
    h.toStable.map (h.toStable.push16 _ (h.toStable.core (s := { s with iflags := s.iflags &&& ~~~(1#5 <<< firstSource s.pend) })
      (by constructor <;> rfl) (h.acknowledge _ hp))) fun _ => SameBus.jumpTo _ _ _
  unfold Machine.dispatchStep
  cases hd : takeInterrupt s.pend s with
  | done t => exact ⟨_, rfl, h.finish _ (by simpa [hd, Access.state] using h1)⟩
  | fatal t => exact ⟨_, rfl, by simpa [hd, Access.state] using h1⟩

theorem StableStep.instr (h : StableStep P) {s : State} (ext : IntSet) (hp : P s) :
    ∃ t, instrStep ext s = .next t ∧ P t := by
  obtain ⟨t, ht, hpt⟩ := h.toStable.exec (fetch s).1 (h.toStable.core (SameBus.fetch s) hp)
  unfold Machine.instrStep
  rw [ht]
  unfold afterInstr
  simp only
  split
  · exact ⟨_, rfl, hpt⟩
  · exact ⟨_, rfl, h.finish _ (h.toStable.core (by constructor <;> rfl) hpt)⟩

/-- Every step answers a next state, and keeps every property of this kind. -/
theorem StableStep.step (h : StableStep P) {s : State} (hp : P s) : ∃ t, stepWith s.nextExt s.dropExt = .next t ∧ P t := by
  have hd : P s.dropExt := h.drop hp
  have hw : P s.dropExt.wakeTest := h.toStable.core (by constructor <;> rfl) hd
  unfold stepWith
  split
  · exact ⟨_, rfl, h.toStable.core (by constructor <;> rfl) hd⟩
  split
  · exact h.dispatch _ hw
  split
  · exact ⟨_, rfl, h.finish _ (h.toStable.core (by constructor <;> rfl) hw)⟩
  · exact h.instr _ hw

end Sys2Proof.Machine
end

