-- ==== Sys2Proof/Laws/Ppu.lean ====
section
/-! SUPPORT. The PPU: the union of requests, what a transition and a step can change, and that the loop's fuel does not matter once there is enough of it. -/

namespace Sys2Proof.Machine

/-! ### Requests (R312) -/

@[simp] theorem InterruptRequest.union_none (a : InterruptRequest) : a.union .none = a := by cases a <;> rfl
@[simp] theorem InterruptRequest.none_union (a : InterruptRequest) : InterruptRequest.none.union a = a := by cases a <;> rfl
@[simp] theorem InterruptRequest.union_self (a : InterruptRequest) : a.union a = a := by cases a <;> rfl
theorem InterruptRequest.union_comm (a b : InterruptRequest) : a.union b = b.union a := by cases a <;> cases b <;> rfl
theorem InterruptRequest.union_assoc (a b c : InterruptRequest) : (a.union b).union c = a.union (b.union c) := by
  cases a <;> cases b <;> cases c <;> rfl

/-! ### Transitions and the loop (R305 to R311) -/

theorem PpuMode.duration_ge (m : PpuMode) : 80 ≤ m.duration := by cases m <;> decide

/-- A transition changes the mode and LY only. -/
theorem Ppu.modeEnd_frame (p : Ppu) : p.modeEnd.1 = { p with mode := p.modeEnd.1.mode, ly := p.modeEnd.1.ly } := by
  unfold Ppu.modeEnd
  cases p.mode <;> simp only
  · split <;> rfl
  · split <;> rfl

@[simp] theorem Ppu.modeEnd_cycles (p : Ppu) : p.modeEnd.1.cycles = p.cycles := by rw [p.modeEnd_frame]

/-- Within its mode the loop does nothing. -/
theorem Ppu.loop_within {fuel : Nat} {p : Ppu} {r : InterruptRequest} (h : p.cycles < p.mode.duration) :
    Ppu.loop fuel p r = (p, r) := by
  cases fuel with
  | zero => rfl
  | succ n => rw [Ppu.loop, if_neg (by omega)]

/-- At the end of its mode the loop makes one transition and goes on. -/
theorem Ppu.loop_transition {fuel : Nat} {p : Ppu} {r : InterruptRequest} (h : p.mode.duration ≤ p.cycles) :
    Ppu.loop (fuel + 1) p r =
      Ppu.loop fuel (Ppu.modeEnd { p with cycles := p.cycles - p.mode.duration }).1
        (r.union (Ppu.modeEnd { p with cycles := p.cycles - p.mode.duration }).2) := by
  rw [Ppu.loop, if_pos h]

/-- The requests of the loop are united with those before it. -/
theorem Ppu.loop_request (fuel : Nat) (p : Ppu) (r : InterruptRequest) :
    Ppu.loop fuel p r = ((Ppu.loop fuel p .none).1, r.union (Ppu.loop fuel p .none).2) := by
  induction fuel generalizing p r with
  | zero => simp [Ppu.loop]
  | succ n ih =>
    simp only [Ppu.loop]
    split
    · rw [ih, ih (r := InterruptRequest.none.union _)]
      simp [InterruptRequest.union_assoc]
    · simp

/-- The loop changes the mode, LY and the counter only. -/
theorem Ppu.loop_frame (fuel : Nat) (p : Ppu) (r : InterruptRequest) :
    (Ppu.loop fuel p r).1 = { p with
      mode := (Ppu.loop fuel p r).1.mode, ly := (Ppu.loop fuel p r).1.ly, cycles := (Ppu.loop fuel p r).1.cycles } := by
  induction fuel generalizing p r with
  | zero => rfl
  | succ n ih =>
    simp only [Ppu.loop]
    split
    · rw [ih, Ppu.modeEnd_frame]
    · rfl

/-- Enough fuel is enough: every mode lasts at least 80 cycles. -/
theorem Ppu.loop_fuel (f g : Nat) (p : Ppu) (r : InterruptRequest) (hf : p.cycles < 80 * f) (hg : p.cycles < 80 * g) :
    Ppu.loop f p r = Ppu.loop g p r := by
  induction f generalizing g p r with
  | zero => omega
  | succ n ih =>
    cases g with
    | zero => omega
    | succ g =>
      simp only [Ppu.loop]
      split
      · have := PpuMode.duration_ge p.mode
        apply ih
        · rw [Ppu.modeEnd_cycles]; simp only; omega
        · rw [Ppu.modeEnd_cycles]; simp only; omega
      · rfl

/-- A step changes the mode, LY and the counter only. -/
theorem Ppu.step_frame (p : Ppu) (n : Nat) :
    (p.step n).1 = { p with mode := (p.step n).1.mode, ly := (p.step n).1.ly, cycles := (p.step n).1.cycles } := by
  unfold Ppu.step
  conv_lhs => rw [Ppu.loop_frame]

@[simp] theorem Ppu.step_vram (p : Ppu) (n : Nat) : (p.step n).1.vram = p.vram := by rw [Ppu.step_frame]
@[simp] theorem Ppu.step_oam (p : Ppu) (n : Nat) : (p.step n).1.oam = p.oam := by rw [Ppu.step_frame]
@[simp] theorem Ppu.step_tiles (p : Ppu) (n : Nat) : (p.step n).1.tiles = p.tiles := by rw [Ppu.step_frame]
@[simp] theorem Ppu.step_objects (p : Ppu) (n : Nat) : (p.step n).1.objects = p.objects := by rw [Ppu.step_frame]
@[simp] theorem Ppu.step_lyc (p : Ppu) (n : Nat) : (p.step n).1.lyc = p.lyc := by rw [Ppu.step_frame]
@[simp] theorem Ppu.step_lcdc (p : Ppu) (n : Nat) : (p.step n).1.lcdc = p.lcdc := by rw [Ppu.step_frame]
@[simp] theorem Ppu.step_selHblank (p : Ppu) (n : Nat) : (p.step n).1.selHblank = p.selHblank := by rw [Ppu.step_frame]
@[simp] theorem Ppu.step_selVblank (p : Ppu) (n : Nat) : (p.step n).1.selVblank = p.selVblank := by rw [Ppu.step_frame]
@[simp] theorem Ppu.step_selOam (p : Ppu) (n : Nat) : (p.step n).1.selOam = p.selOam := by rw [Ppu.step_frame]
@[simp] theorem Ppu.step_selLyc (p : Ppu) (n : Nat) : (p.step n).1.selLyc = p.selLyc := by rw [Ppu.step_frame]

end Sys2Proof.Machine
end

