-- ==== Sys2Proof/Laws/Regs.lean ====
section
/-! SUPPORT. Bytes of words, registers and pairs: reading back what was written. -/

namespace Sys2Proof.Machine

theorem hiByte_toNat (v : Word) : (hiByte v).toNat = v.toNat / 256 := by
  have := v.isLt
  simp only [hiByte, BitVec.extractLsb'_toNat, Nat.shiftRight_eq_div_pow]
  exact Nat.mod_eq_of_lt (by omega)

theorem loByte_toNat (v : Word) : (loByte v).toNat = v.toNat % 256 := by
  simp only [loByte, BitVec.extractLsb'_toNat, Nat.shiftRight_zero]

/-- A joined word as a number: the high byte counts 256. -/
theorem joinBytes_toNat (hi lo : Byte) : (joinBytes hi lo).toNat = hi.toNat * 256 + lo.toNat := by
  rw [joinBytes, BitVec.toNat_append, ← Nat.shiftLeft_add_eq_or_of_lt lo.isLt, Nat.shiftLeft_eq]

@[simp] theorem hiByte_joinBytes (hi lo : Byte) : hiByte (joinBytes hi lo) = hi := by
  apply BitVec.eq_of_toNat_eq
  rw [hiByte_toNat, joinBytes_toNat]
  have := lo.isLt
  omega

@[simp] theorem loByte_joinBytes (hi lo : Byte) : loByte (joinBytes hi lo) = lo := by
  apply BitVec.eq_of_toNat_eq
  rw [loByte_toNat, joinBytes_toNat]
  have := lo.isLt
  omega

@[simp] theorem joinBytes_hi_lo (v : Word) : joinBytes (hiByte v) (loByte v) = v := by
  apply BitVec.eq_of_toNat_eq
  rw [joinBytes_toNat, hiByte_toNat, loByte_toNat]
  omega

@[simp] theorem Regs.get_set_same (r : Regs) (i : Reg8) (v : Byte) : (r.set i v).get i = v := by cases i <;> rfl

theorem Regs.get_set_other (r : Regs) {i j : Reg8} (v : Byte) (h : j ≠ i) : (r.set i v).get j = r.get j := by
  cases i <;> cases j <;> first | rfl | exact absurd rfl h

@[simp] theorem Regs.bc_setBC (r : Regs) (v : Word) : (r.setBC v).bc = v := joinBytes_hi_lo v
@[simp] theorem Regs.de_setDE (r : Regs) (v : Word) : (r.setDE v).de = v := joinBytes_hi_lo v
@[simp] theorem Regs.hl_setHL (r : Regs) (v : Word) : (r.setHL v).hl = v := joinBytes_hi_lo v
@[simp] theorem Regs.setBC_bc (r : Regs) : r.setBC r.bc = r := by simp [Regs.setBC, Regs.bc]
@[simp] theorem Regs.setDE_de (r : Regs) : r.setDE r.de = r := by simp [Regs.setDE, Regs.de]
@[simp] theorem Regs.setHL_hl (r : Regs) : r.setHL r.hl = r := by simp [Regs.setHL, Regs.hl]

/-- Unpacking a packed flags byte gives the flags back. -/
@[simp] theorem Flags.unpack_pack (f : Flags) : Flags.unpack f.pack = f := by
  obtain ⟨z, n, h, c⟩ := f
  cases z <;> cases n <;> cases h <;> cases c <;> rfl

end Sys2Proof.Machine
end

