-- ==== Sys2Proof/Tests/Slice0.lean ====
section
/-! SUPPORT. Tests. The expected results are those of spec/95_test_vectors.md (its row is in each test's name) or are worked out from the rule named; then, for each statement of Certificates/Slice0/Obligations.lean that has hypotheses, a witness that meets them. -/

namespace Sys2Proof.Tests

set_option Elab.async false

open Sys2Proof.Machine Sys2Proof.Claims

/-! ### Well-formedness: one ill-formed term for each check, and its well-formed neighbour (R110, R112) -/

theorem test_wf_refuses_illegal_of_a_mapped_byte : Instr.wf (.illegal 0x00) = false := by decide
theorem test_wf_refuses_illegal_of_the_prefix_byte : Instr.wf (.illegal 0xCB) = false := by decide
theorem test_wf_accepts_illegal_of_an_unmapped_byte : Instr.wf (.illegal 0xFD) = true := by decide
theorem test_wf_refuses_the_prefix_marker : Instr.wf (.cbPrefix 0x00) = false := by decide
theorem test_wf_accepts_a_secondary_instruction : Instr.wf .rlc_b = true := by decide

/-! ### Decoding: words written out from the opcode tables (R100 to R112) -/

theorem test_decode_ld_r_r : decode [0b01000111] = .ok (.ld_b_a, []) := rfl
theorem test_decode_ld_r_atHL : decode [0b01101110, 0x77] = .ok (.ld_l_atHL, [0x77]) := rfl
theorem test_decode_ld_atHL_r : decode [0b01110000] = .ok (.ld_atHL_b, []) := rfl
theorem test_decode_halt_in_the_load_block : decode [0b01110110] = .ok (.halt, []) := rfl
theorem test_decode_ld_r_n : decode [0b00001110, 0x13] = .ok (.ld_c_n 0x13, []) := rfl
theorem test_decode_ld_post_step : decode [0b00110010] = .ok (.ld_atHLdec_a, []) := rfl
theorem test_decode_ldh : decode [0b11100000, 0x50] = .ok (.ldh_atN_a 0x50, []) := rfl
theorem test_decode_ld_nn_low_byte_first : decode [0b11111010, 0x44, 0xFF] = .ok (.ld_a_atNN 0xFF44, []) := rfl
theorem test_decode_ld_rr_nn : decode [0b00110001, 0xFE, 0xFF] = .ok (.ld_sp_nn 0xFFFE, []) := rfl
theorem test_decode_push_af : decode [0b11110101] = .ok (.push_af, []) := rfl
theorem test_decode_ld_hl_sp_e : decode [0b11111000, 0x08] = .ok (.ld_hl_spE 0x08, []) := rfl
theorem test_decode_alu_atHL : decode [0b10011110] = .ok (.sbc_a_atHL, []) := rfl
theorem test_decode_alu_n : decode [0b11111110, 0x40] = .ok (.cp_n 0x40, []) := rfl
theorem test_decode_inc_r : decode [0b00111100] = .ok (.inc_a, []) := rfl
theorem test_decode_daa : decode [0b00100111] = .ok (.daa, []) := rfl
theorem test_decode_add_hl_rr : decode [0b00101001] = .ok (.add_hl_hl, []) := rfl
theorem test_decode_acc_rotate : decode [0b00011111] = .ok (.rra, []) := rfl
theorem test_decode_cb_rotate : decode [0xCB, 0b00110111] = .ok (.swap_a, []) := rfl
theorem test_decode_cb_bit : decode [0xCB, 0b01111100] = .ok (.bit_7_h, []) := rfl
theorem test_decode_cb_after_cb : decode [0xCB, 0xCB] = .ok (.set_1_e, []) := rfl
theorem test_decode_cb_res_atHL : decode [0xCB, 0b10011110] = .ok (.res_3_atHL, []) := rfl
theorem test_decode_jp : decode [0b11000011, 0x00, 0x80] = .ok (.jp_nn 0x8000, []) := rfl
theorem test_decode_jr_cc : decode [0b00100000, 0xFB] = .ok (.jr_nz_e 0xFB, []) := rfl
theorem test_decode_call_cc : decode [0b11011100, 0x34, 0x12] = .ok (.call_c_nn 0x1234, []) := rfl
theorem test_decode_reti : decode [0b11011001] = .ok (.reti, []) := rfl
theorem test_decode_rst : decode [0b11101111] = .ok (.rst_28, []) := rfl
theorem test_decode_stop : decode [0b00010000, 0xA5] = .ok (.stop 0xA5, []) := rfl
theorem test_decode_ei : decode [0b11111011] = .ok (.ei, []) := rfl
theorem test_decode_unmapped : decode [0b11010011] = .ok (.illegal 0xD3, []) := rfl
theorem test_decode_truncated_word : decode [0xC3, 0x00] = .error .truncated := rfl
theorem test_decode_truncated_secondary : decode [0xCB] = .error .truncated := rfl
theorem test_decode_nothing : decode [] = .error .truncated := rfl
theorem test_encode_jp : encode (.jp_nn 0x8000) = [0xC3, 0x00, 0x80] := by decide
theorem test_encode_res : encode .res_3_atHL = [0xCB, 0x9E] := by decide
theorem test_table_word_primary : decodeTableWord 8 0x3C = some .inc_a := by decide +kernel
theorem test_table_word_secondary : decodeTableWord 16 0xCB37 = some .swap_a := by decide +kernel
theorem test_table_word_three_bytes : decodeTableWord 24 0x8000C3 = some (.jp_nn 0x8000) := by decide +kernel
theorem test_table_word_operand_word_absent : decodeTableWord 8 0xC3 = some (.jp_nn 0x0000) := by decide +kernel

/-! ### One step from a small state (conventions of spec/95_test_vectors.md) -/

/-- The state the vectors start from: the reset state with the code in working RAM at 0xC000 and pc there, sp = 0xDFF0. -/
def prog (code : List Byte) : State := { State.reset with pc := 0xC000, sp := 0xDFF0, wram := Memory.load [] 0 code }

/-- The flags in the order Z N H C. -/
def fl (v : BitVec 4) : Flags := ⟨v.getLsbD 3, v.getLsbD 2, v.getLsbD 1, v.getLsbD 0⟩

/-- Whether one step answers a next state that passes the check. -/
def after (s : State) (check : State → Bool) : Bool :=
  match step s with
  | .next t => check t
  | _ => false

/-! #### 8-bit loads (R130 to R148) -/

theorem test_L1_ld_b_a :
    after { prog [0x47] with regs := { State.reset.regs with a := 0x5A } }
      (fun t => t.regs.b == 0x5A && t.pc == 0xC001 && t.cycles == 4) = true := by decide +kernel
theorem test_L2_ld_d_n :
    after (prog [0x16, 0x7F])
      (fun t => t.regs.d == 0x7F && t.pc == 0xC002 && t.cycles == 8) = true := by decide +kernel
theorem test_L3_ld_e_atHL :
    after (placeByte 0xC100 0x99 { prog [0x5E] with regs := { State.reset.regs with h := 0xC1, l := 0x00 } })
      (fun t => t.regs.e == 0x99 && t.pc == 0xC001 && t.cycles == 8) = true := by decide +kernel
theorem test_L4_ld_atHL_c :
    after { prog [0x71] with regs := { State.reset.regs with h := 0xC1, l := 0x00, c := 0x42 } }
      (fun t => t.peek 0xC100 == 0x42 && t.pc == 0xC001 && t.cycles == 8) = true := by decide +kernel
theorem test_L5_ld_atHL_n :
    after { prog [0x36, 0xA5] with regs := { State.reset.regs with h := 0xC1, l := 0x00 } }
      (fun t => t.peek 0xC100 == 0xA5 && t.pc == 0xC002 && t.cycles == 12) = true := by decide +kernel
theorem test_L6_ld_a_atBC :
    after (placeByte 0xC123 0x77 { prog [0x0A] with regs := { State.reset.regs with b := 0xC1, c := 0x23 } })
      (fun t => t.regs.a == 0x77 && t.cycles == 8) = true := by decide +kernel
theorem test_L7_ld_atDE_a :
    after { prog [0x12] with regs := { State.reset.regs with d := 0xD0, e := 0x00, a := 0x31 } }
      (fun t => t.peek 0xD000 == 0x31 && t.cycles == 8) = true := by decide +kernel
theorem test_L8_ld_a_atHLinc :
    after (placeByte 0xC1FF 0x10 { prog [0x2A] with regs := { State.reset.regs with h := 0xC1, l := 0xFF } })
      (fun t => t.regs.a == 0x10 && t.regs.hl == 0xC200) = true := by decide +kernel
theorem test_L9_ld_a_atHLdec_wraps :
    after { prog [0x3A] with regs := { State.reset.regs with h := 0x00, l := 0x00 } }
      (fun t => t.regs.a == 0x00 && t.regs.hl == 0xFFFF) = true := by decide +kernel
theorem test_L10_ld_atHLinc_a_at_the_top :
    after { prog [0x22] with regs := { State.reset.regs with h := 0xFF, l := 0xFF, a := 0xFF } }
      (fun t => t.ie == 0x1F && t.regs.hl == 0x0000) = true := by decide +kernel
theorem test_L12_ldh_atN_a :
    after { prog [0xE0, 0x80] with regs := { State.reset.regs with a := 0x9C } }
      (fun t => t.peek 0xFF80 == 0x9C && t.pc == 0xC002 && t.cycles == 12) = true := by decide +kernel
theorem test_L13_ldh_a_atN_reads_ly :
    after { prog [0xF0, 0x44] with ppu := { State.reset.ppu with ly := 42 } }
      (fun t => t.regs.a == 0x2A) = true := by decide +kernel
theorem test_L14_ld_atC_a_writes_lyc :
    after { prog [0xE2] with regs := { State.reset.regs with c := 0x45, a := 0x90 } }
      (fun t => t.ppu.lyc == 0x90 && t.pc == 0xC001 && t.cycles == 8) = true := by decide +kernel
theorem test_L15_ld_a_atC_reads_stat :
    after { prog [0xF2] with regs := { State.reset.regs with c := 0x41 } }
      (fun t => t.regs.a == 0x06) = true := by decide +kernel
theorem test_L16_ld_atNN_a_echo :
    after { prog [0xEA, 0x10, 0xE0] with regs := { State.reset.regs with a := 0x3D } }
      (fun t => t.peek 0xC010 == 0x3D && t.peek 0xE010 == 0x3D && t.pc == 0xC003 && t.cycles == 16) = true := by decide +kernel
theorem test_L17_ld_a_atNN_unused :
    after { prog [0xFA, 0xA5, 0xFE] with regs := { State.reset.regs with a := 0x55 } }
      (fun t => t.regs.a == 0x00 && t.pc == 0xC003 && t.cycles == 16) = true := by decide +kernel
theorem test_L18_ld_atNN_a_rom_ignored :
    after { prog [0xEA, 0x00, 0x20] with regs := { State.reset.regs with a := 0x01 } }
      (fun t => t.peek 0x2000 == 0x00 && t.pc == 0xC003 && t.fault == none) = true := by decide +kernel
theorem test_L18_ld_atNN_a_rom_fault_policy :
    after { prog [0xEA, 0xFF, 0x7F] with regs := { State.reset.regs with a := 0x01 }, cfg := { ({} : Params) with romWrite := .fault } }
      (fun t => t.fault == some (.romWrite 0x7FFF) && t.pc == 0xC000 && t.cycles == 0) = true := by decide +kernel
theorem test_L19_ld_atHL_b_unused :
    after { prog [0x70] with regs := { State.reset.regs with h := 0xFE, l := 0xFF, b := 0x01 } }
      (fun t => t.fault == some (.unusedWrite 0xFEFF) && t.pc == 0xC000 && t.cycles == 0) = true := by decide +kernel
theorem test_L20_ld_h_atHL :
    after (placeByte 0xC102 0xD0 { prog [0x66] with regs := { State.reset.regs with h := 0xC1, l := 0x02 } })
      (fun t => t.regs.h == 0xD0 && t.regs.l == 0x02) = true := by decide +kernel

/-! #### 16-bit loads and the stack (R160 to R168) -/

theorem test_W1_ld_bc_nn :
    after (prog [0x01, 0xEF, 0xBE])
      (fun t => t.regs.b == 0xBE && t.regs.c == 0xEF && t.pc == 0xC003 && t.cycles == 12) = true := by decide +kernel
theorem test_W2_ld_atNN_sp :
    after { prog [0x08, 0x00, 0xC1] with sp := 0xFFF8 }
      (fun t => t.peek 0xC100 == 0xF8 && t.peek 0xC101 == 0xFF && t.pc == 0xC003 && t.cycles == 20) = true := by decide +kernel
theorem test_W3_ld_sp_hl :
    after { prog [0xF9] with regs := { State.reset.regs with h := 0xD0, l := 0x00 } }
      (fun t => t.sp == 0xD000 && t.cycles == 8) = true := by decide +kernel
theorem test_W4_ld_hl_spE :
    after { prog [0xF8, 0x08] with sp := 0xFFF8, flags := fl 0b1100 }
      (fun t => t.regs.hl == 0x0000 && t.flags == fl 0b0011 && t.sp == 0xFFF8 && t.cycles == 12) = true := by decide +kernel
theorem test_W5_ld_hl_spE_negative :
    after { prog [0xF8, 0xFF] with sp := 0x0100 }
      (fun t => t.regs.hl == 0x00FF && t.flags == fl 0b0000) = true := by decide +kernel
theorem test_W6_add_sp_e :
    after { prog [0xE8, 0xFF] with sp := 0x0001 }
      (fun t => t.sp == 0x0000 && t.flags == fl 0b0011 && t.cycles == 16) = true := by decide +kernel
theorem test_W8_add_sp_e :
    after { prog [0xE8, 0x80] with sp := 0xD080 }
      (fun t => t.sp == 0xD000 && t.flags == fl 0b0001) = true := by decide +kernel
theorem test_W9_push_af :
    after { prog [0xF5] with regs := { State.reset.regs with a := 0x12 }, flags := fl 0b1011 }
      (fun t => t.peek 0xDFEF == 0x12 && t.peek 0xDFEE == 0xB0 && t.sp == 0xDFEE && t.cycles == 16) = true := by decide +kernel
theorem test_W10_pop_af :
    after (placeByte 0xC101 0x12 (placeByte 0xC100 0xFF { prog [0xF1] with sp := 0xC100 }))
      (fun t => t.regs.a == 0x12 && t.flags == fl 0b1111 && t.sp == 0xC102 && t.cycles == 12) = true := by decide +kernel
theorem test_W11_push_hl_wraps :
    after { prog [0xE5] with regs := { State.reset.regs with h := 0x1F, l := 0xAB }, sp := 0x0001 }
      (fun t => t.ie == 0x0B && t.peek 0xFFFF == 0x0B && t.sp == 0xFFFF && t.peek 0x0000 == 0x00) = true := by decide +kernel
theorem test_W12_push_de_first_byte_fatal :
    after { prog [0xD5] with regs := { State.reset.regs with d := 0x12, e := 0x34 }, sp := 0xFF00 }
      (fun t => t.fault == some (.unusedWrite 0xFEFF) && t.sp == 0xFF00 && t.pc == 0xC000) = true := by decide +kernel
theorem test_W13_push_de_second_byte_fatal :
    after { prog [0xD5] with regs := { State.reset.regs with d := 0x12, e := 0x34 }, sp := 0xFF01 }
      (fun t => t.ioLog == [.write 0xFF00 0x12] && t.fault == some (.unusedWrite 0xFEFF) && t.sp == 0xFF01) = true := by decide +kernel
theorem test_W14_pop_de :
    after (placeByte 0xC101 0x12 (placeByte 0xC100 0x34 { prog [0xD1] with sp := 0xC100 }))
      (fun t => t.regs.de == 0x1234 && t.sp == 0xC102) = true := by decide +kernel

/-! #### 8-bit arithmetic and logic (R181 to R196) -/

theorem test_A1_add_a_b :
    after { prog [0x80] with regs := { State.reset.regs with a := 0x3A, b := 0xC6 } }
      (fun t => t.regs.a == 0x00 && t.flags == fl 0b1011 && t.cycles == 4) = true := by decide +kernel
theorem test_A3_add_a_atHL :
    after (placeByte 0xC100 0x01 { prog [0x86] with regs := { State.reset.regs with a := 0x0F, h := 0xC1, l := 0x00 } })
      (fun t => t.regs.a == 0x10 && t.flags == fl 0b0010 && t.cycles == 8) = true := by decide +kernel
theorem test_A4_adc_a_n :
    after { prog [0xCE, 0x0F] with regs := { State.reset.regs with a := 0xE1 }, flags := fl 0b0001 }
      (fun t => t.regs.a == 0xF1 && t.flags == fl 0b0010 && t.cycles == 8) = true := by decide +kernel
theorem test_A6_adc_a_b :
    after { prog [0x88] with regs := { State.reset.regs with a := 0xFF, b := 0xFF }, flags := fl 0b0001 }
      (fun t => t.regs.a == 0xFF && t.flags == fl 0b0011) = true := by decide +kernel
theorem test_A7_sub_n :
    after { prog [0xD6, 0x0F] with regs := { State.reset.regs with a := 0x3E } }
      (fun t => t.regs.a == 0x2F && t.flags == fl 0b0110) = true := by decide +kernel
theorem test_A8_sub_a :
    after { prog [0x97] with regs := { State.reset.regs with a := 0x77 }, flags := fl 0b0001 }
      (fun t => t.regs.a == 0x00 && t.flags == fl 0b1100) = true := by decide +kernel
theorem test_A10_sbc_a_b :
    after { prog [0x98] with regs := { State.reset.regs with a := 0x00, b := 0xFF }, flags := fl 0b0001 }
      (fun t => t.regs.a == 0x00 && t.flags == fl 0b1111) = true := by decide +kernel
theorem test_A11_sbc_a_a :
    after { prog [0x9F] with regs := { State.reset.regs with a := 0x42 }, flags := fl 0b0001 }
      (fun t => t.regs.a == 0xFF && t.flags == fl 0b0111) = true := by decide +kernel
theorem test_A12_and_n :
    after { prog [0xE6, 0x3F] with regs := { State.reset.regs with a := 0x5A }, flags := fl 0b0101 }
      (fun t => t.regs.a == 0x1A && t.flags == fl 0b0010) = true := by decide +kernel
theorem test_A14_xor_a :
    after { prog [0xAF] with regs := { State.reset.regs with a := 0x99 }, flags := fl 0b0101 }
      (fun t => t.regs.a == 0x00 && t.flags == fl 0b1010) = true := by decide +kernel
theorem test_A15_or_c :
    after { prog [0xB1] with flags := fl 0b0001 }
      (fun t => t.regs.a == 0x00 && t.flags == fl 0b1010) = true := by decide +kernel
theorem test_A17_cp_n :
    after { prog [0xFE, 0x40] with regs := { State.reset.regs with a := 0x3C } }
      (fun t => t.regs.a == 0x3C && t.flags == fl 0b0101) = true := by decide +kernel
theorem test_A18_cp_atHL :
    after (placeByte 0xC100 0x3C { prog [0xBE] with regs := { State.reset.regs with a := 0x3C, h := 0xC1, l := 0x00 } })
      (fun t => t.regs.a == 0x3C && t.flags == fl 0b1100 && t.cycles == 8) = true := by decide +kernel
theorem test_A19_inc_a_wraps :
    after { prog [0x3C] with regs := { State.reset.regs with a := 0xFF } }
      (fun t => t.regs.a == 0x00 && t.flags == fl 0b1011) = true := by decide +kernel
theorem test_A21_inc_atHL :
    after (placeByte 0xC100 0x4F { prog [0x34] with regs := { State.reset.regs with h := 0xC1, l := 0x00 } })
      (fun t => t.peek 0xC100 == 0x50 && t.flags == fl 0b0010 && t.cycles == 12) = true := by decide +kernel
theorem test_A23_dec_a_wraps :
    after (prog [0x3D])
      (fun t => t.regs.a == 0xFF && t.flags == fl 0b0111) = true := by decide +kernel
theorem test_A24_dec_atHL :
    after { prog [0x35] with regs := { State.reset.regs with h := 0xFF, l := 0x80 } }
      (fun t => t.peek 0xFF80 == 0xFF && t.flags == fl 0b0111 && t.cycles == 12) = true := by decide +kernel
theorem test_A27_daa_add :
    after { prog [0x27] with regs := { State.reset.regs with a := 0x9A } }
      (fun t => t.regs.a == 0x00 && t.flags == fl 0b1001) = true := by decide +kernel
theorem test_A28_daa_subtract :
    after { prog [0x27] with regs := { State.reset.regs with a := 0x00 }, flags := fl 0b0110 }
      (fun t => t.regs.a == 0xFA && t.flags == fl 0b0100) = true := by decide +kernel
theorem test_A32_cpl :
    after { prog [0x2F] with regs := { State.reset.regs with a := 0x35 }, flags := fl 0b1001 }
      (fun t => t.regs.a == 0xCA && t.flags == fl 0b1111) = true := by decide +kernel
theorem test_A33_scf :
    after { prog [0x37] with flags := fl 0b1110 }
      (fun t => t.flags == fl 0b1001) = true := by decide +kernel
theorem test_A34_ccf :
    after { prog [0x3F] with flags := fl 0b1111 }
      (fun t => t.flags == fl 0b1000) = true := by decide +kernel

/-! #### 16-bit arithmetic, rotates, shifts and bits (R210 to R235) -/

theorem test_B1_add_hl_bc :
    after { prog [0x09] with regs := { State.reset.regs with h := 0x8A, l := 0x23, b := 0x06, c := 0x05 }, flags := fl 0b1100 }
      (fun t => t.regs.hl == 0x9028 && t.flags == fl 0b0010 && t.cycles == 8) = true := by decide +kernel
theorem test_B2_add_hl_de_wraps :
    after { prog [0x19] with regs := { State.reset.regs with h := 0xFF, l := 0xFF, d := 0x00, e := 0x01 } }
      (fun t => t.regs.hl == 0x0000 && t.flags == fl 0b1011) = true := by decide +kernel
theorem test_B6_inc_de_wraps :
    after { prog [0x13] with regs := { State.reset.regs with d := 0xFF, e := 0xFF }, flags := fl 0b0100 }
      (fun t => t.regs.de == 0x0000 && t.flags == fl 0b0100 && t.cycles == 8) = true := by decide +kernel
theorem test_B7_dec_bc_wraps :
    after (prog [0x0B])
      (fun t => t.regs.bc == 0xFFFF && t.flags == fl 0b0000) = true := by decide +kernel
theorem test_B8_inc_sp :
    after { prog [0x33] with sp := 0xFFFF }
      (fun t => t.sp == 0x0000) = true := by decide +kernel
theorem test_T1_rlca :
    after { prog [0x07] with regs := { State.reset.regs with a := 0x85 }, flags := fl 0b1110 }
      (fun t => t.regs.a == 0x0B && t.flags == fl 0b0001 && t.cycles == 4) = true := by decide +kernel
theorem test_T2_rlca_zero :
    after { prog [0x07] with flags := fl 0b0001 }
      (fun t => t.regs.a == 0x00 && t.flags == fl 0b0000) = true := by decide +kernel
theorem test_T3_rrca :
    after { prog [0x0F] with regs := { State.reset.regs with a := 0x3B } }
      (fun t => t.regs.a == 0x9D && t.flags == fl 0b0001) = true := by decide +kernel
theorem test_T4_rla :
    after { prog [0x17] with regs := { State.reset.regs with a := 0x95 }, flags := fl 0b0001 }
      (fun t => t.regs.a == 0x2B && t.flags == fl 0b0001) = true := by decide +kernel
theorem test_T7_rra :
    after { prog [0x1F] with flags := fl 0b0001 }
      (fun t => t.regs.a == 0x80 && t.flags == fl 0b0000) = true := by decide +kernel
theorem test_T8_rlc_b :
    after { prog [0xCB, 0x00] with regs := { State.reset.regs with b := 0x85 } }
      (fun t => t.regs.b == 0x0B && t.flags == fl 0b0001 && t.pc == 0xC002 && t.cycles == 8) = true := by decide +kernel
theorem test_T10_rrc_c :
    after { prog [0xCB, 0x09] with regs := { State.reset.regs with c := 0x01 } }
      (fun t => t.regs.c == 0x80 && t.flags == fl 0b0001) = true := by decide +kernel
theorem test_T11_rl_c :
    after { prog [0xCB, 0x11] with regs := { State.reset.regs with c := 0x80 } }
      (fun t => t.regs.c == 0x00 && t.flags == fl 0b1001) = true := by decide +kernel
theorem test_T12_rr_d :
    after { prog [0xCB, 0x1A] with regs := { State.reset.regs with d := 0x01 } }
      (fun t => t.regs.d == 0x00 && t.flags == fl 0b1001) = true := by decide +kernel
theorem test_T13_sla_e :
    after { prog [0xCB, 0x23] with regs := { State.reset.regs with e := 0xB1 } }
      (fun t => t.regs.e == 0x62 && t.flags == fl 0b0001) = true := by decide +kernel
theorem test_T14_sra_h :
    after { prog [0xCB, 0x2C] with regs := { State.reset.regs with h := 0x8A } }
      (fun t => t.regs.h == 0xC5 && t.flags == fl 0b0000) = true := by decide +kernel
theorem test_T16_swap_a :
    after { prog [0xCB, 0x37] with regs := { State.reset.regs with a := 0xF1 }, flags := fl 0b0111 }
      (fun t => t.regs.a == 0x1F && t.flags == fl 0b0000) = true := by decide +kernel
theorem test_T19_srl_atHL :
    after (placeByte 0xC100 0x01 { prog [0xCB, 0x3E] with regs := { State.reset.regs with h := 0xC1, l := 0x00 } })
      (fun t => t.peek 0xC100 == 0x00 && t.flags == fl 0b1001 && t.cycles == 16) = true := by decide +kernel
theorem test_T20_bit_7_h :
    after { prog [0xCB, 0x7C] with regs := { State.reset.regs with h := 0x80 }, flags := fl 0b0101 }
      (fun t => t.regs.h == 0x80 && t.flags == fl 0b0011 && t.cycles == 8) = true := by decide +kernel
theorem test_T22_bit_0_atHL :
    after (placeByte 0xC100 0xFE { prog [0xCB, 0x46] with regs := { State.reset.regs with h := 0xC1, l := 0x00 } })
      (fun t => t.flags == fl 0b1010 && t.cycles == 12 && t.peek 0xC100 == 0xFE) = true := by decide +kernel
theorem test_T23_res_0_a :
    after { prog [0xCB, 0x87] with regs := { State.reset.regs with a := 0xFF }, flags := fl 0b1111 }
      (fun t => t.regs.a == 0xFE && t.flags == fl 0b1111 && t.cycles == 8) = true := by decide +kernel
theorem test_T24_set_7_atHL :
    after { prog [0xCB, 0xFE] with regs := { State.reset.regs with h := 0xC1, l := 0x00 } }
      (fun t => t.peek 0xC100 == 0x80 && t.cycles == 16) = true := by decide +kernel
theorem test_T25_set_1_e :
    after (prog [0xCB, 0xCB])
      (fun t => t.regs.e == 0x02 && t.pc == 0xC002) = true := by decide +kernel
theorem test_T26_res_3_atHL_unused :
    after { prog [0xCB, 0x9E] with regs := { State.reset.regs with h := 0xFE, l := 0xA0 }, flags := fl 0b1000 }
      (fun t => t.fault == some (.unusedWrite 0xFEA0) && t.pc == 0xC000 && t.flags == fl 0b1000) = true := by decide +kernel

/-! #### Control transfer (R250 to R261) -/

theorem test_J1_jp :
    after { prog [0xC3, 0x00, 0x80] with flags := fl 0b1111 }
      (fun t => t.pc == 0x8000 && t.cycles == 16) = true := by decide +kernel
theorem test_J2_jp_z_not_taken :
    after (prog [0xCA, 0x50, 0x01])
      (fun t => t.pc == 0xC003 && t.cycles == 12) = true := by decide +kernel
theorem test_J3_jp_nc_taken :
    after (prog [0xD2, 0x50, 0x01])
      (fun t => t.pc == 0x0150 && t.cycles == 16) = true := by decide +kernel
theorem test_J4_jp_hl :
    after { prog [0xE9] with regs := { State.reset.regs with h := 0xD1, l := 0x23 } }
      (fun t => t.pc == 0xD123 && t.cycles == 4) = true := by decide +kernel
theorem test_J6_jr_to_itself :
    after (prog [0x18, 0xFE])
      (fun t => t.pc == 0xC000) = true := by decide +kernel
theorem test_J10_jr_back_128 :
    after (prog [0x18, 0x80])
      (fun t => t.pc == 0xBF82) = true := by decide +kernel
theorem test_J9_jr_c_taken :
    after { prog [0x38, 0x7F] with flags := fl 0b0001 }
      (fun t => t.pc == 0xC081) = true := by decide +kernel
theorem test_J8_jr_nz_not_taken :
    after { prog [0x20, 0xFB] with flags := fl 0b1000 }
      (fun t => t.pc == 0xC002 && t.cycles == 8) = true := by decide +kernel
theorem test_J11_call :
    after (prog [0xCD, 0x34, 0x12])
      (fun t => t.pc == 0x1234 && t.sp == 0xDFEE && t.peek 0xDFEF == 0xC0 && t.peek 0xDFEE == 0x03 && t.cycles == 24) = true := by decide +kernel
theorem test_J12_call_nc_not_taken :
    after { prog [0xD4, 0x00, 0x40] with flags := fl 0b0001 }
      (fun t => t.pc == 0xC003 && t.sp == 0xDFF0 && t.cycles == 12) = true := by decide +kernel
theorem test_J13_call_z_taken :
    after { prog [0xCC, 0x00, 0x40] with flags := fl 0b1000 }
      (fun t => t.pc == 0x4000 && t.sp == 0xDFEE && t.peek 0xDFEE == 0x03 && t.cycles == 24) = true := by decide +kernel
theorem test_J14_ret :
    after (placeByte 0xD001 0x80 (placeByte 0xD000 0x03 { prog [0xC9] with sp := 0xD000 }))
      (fun t => t.pc == 0x8003 && t.sp == 0xD002 && t.cycles == 16) = true := by decide +kernel
theorem test_J15_ret_z_taken :
    after (placeByte 0xD001 0x02 (placeByte 0xD000 0x00 { prog [0xC8] with sp := 0xD000, flags := fl 0b1000 }))
      (fun t => t.pc == 0x0200 && t.sp == 0xD002 && t.cycles == 20) = true := by decide +kernel
theorem test_J16_ret_nz_not_taken :
    after { prog [0xC0] with sp := 0xD000, flags := fl 0b1000 }
      (fun t => t.pc == 0xC001 && t.sp == 0xD000 && t.cycles == 8) = true := by decide +kernel
theorem test_J17_reti :
    after (placeByte 0xD001 0x01 (placeByte 0xD000 0x53 { prog [0xD9] with sp := 0xD000 }))
      (fun t => t.pc == 0x0153 && t.sp == 0xD002 && t.ime == true && t.cycles == 16) = true := by decide +kernel
theorem test_J18_rst_28 :
    after { prog [0xEF] with sp := 0xD000 }
      (fun t => t.pc == 0x0028 && t.sp == 0xCFFE && t.peek 0xCFFF == 0xC0 && t.peek 0xCFFE == 0x01 && t.cycles == 16) = true := by decide +kernel
theorem test_J20_call_fatal :
    after { prog [0xCD, 0x34, 0x12] with sp := 0xFF00 }
      (fun t => t.fault == some (.unusedWrite 0xFEFF) && t.pc == 0xC000 && t.sp == 0xFF00) = true := by decide +kernel

/-! #### System instructions, interrupts and the step (R270 to R276, R340 to R357) -/

theorem test_Y1_nop :
    after (prog [0x00])
      (fun t => t.pc == 0xC001 && t.cycles == 4) = true := by decide +kernel
theorem test_Y2_halt :
    after (prog [0x76])
      (fun t => t.pc == 0xC001 && t.halted == true && t.cycles == 4) = true := by decide +kernel
theorem test_Y2_idle_step :
    after { prog [0x76] with halted := true, pc := 0xC001 }
      (fun t => t.pc == 0xC001 && t.halted == true && t.cycles == 4 && t.ppu.cycles == 4) = true := by decide +kernel
theorem test_Y3_halt_wakes_with_ime_clear :
    after { prog [0x76, 0x3C] with ie := 0x04, iflags := 0x04, halted := true, pc := 0xC001 }
      (fun t => t.pc == 0xC002 && t.regs.a == 0x01 && t.halted == false && t.iflags == 0x04) = true := by decide +kernel
theorem test_Y4_dispatch_precedes_halt :
    after { prog [0x76] with ie := 0x04, iflags := 0x04, ime := true }
      (fun t => t.pc == 0x0050 && t.sp == 0xDFEE && t.peek 0xDFEF == 0xC0 && t.peek 0xDFEE == 0x00 && t.ime == false && t.iflags == 0x00 && t.halted == false && t.cycles == 20) = true := by decide +kernel
theorem test_Y5_stop :
    after (prog [0x10, 0x00, 0x3C])
      (fun t => t.pc == 0xC002 && t.stopped == true && t.cycles == 4) = true := by decide +kernel
theorem test_Y5_stopped_engine_runs_on :
    after { prog [0x3C] with stopped := true }
      (fun t => t.regs.a == 0x01 && t.stopped == true) = true := by decide +kernel
theorem test_Y6_di :
    after { prog [0xF3] with ime := true }
      (fun t => t.ime == false && t.imeScheduled == false) = true := by decide +kernel
theorem test_Y7_ei :
    after (prog [0xFB, 0x00])
      (fun t => t.ime == false && t.imeScheduled == true && t.pc == 0xC001) = true := by decide +kernel
theorem test_Y8_nop_after_ei :
    after { prog [0x00] with imeScheduled := true }
      (fun t => t.ime == true && t.imeScheduled == false) = true := by decide +kernel
theorem test_Y9_di_after_ei :
    after { prog [0xF3] with imeScheduled := true }
      (fun t => t.ime == false && t.imeScheduled == false) = true := by decide +kernel
theorem test_Y10_ei_after_ei :
    after { prog [0xFB] with imeScheduled := true }
      (fun t => t.ime == true && t.imeScheduled == false) = true := by decide +kernel
theorem test_Y12_unmapped :
    after (prog [0xDD])
      (fun t => t.fault == some (.illegalOpcode 0xC000 0xDD) && t.pc == 0xC000 && t.cycles == 0 && t.ppu.cycles == 0) = true := by decide +kernel
theorem test_Y13_dispatch_precedes_unmapped :
    after { prog [0xFC] with ie := 0x10, iflags := 0x10, ime := true }
      (fun t => t.pc == 0x0060 && t.fault == none) = true := by decide +kernel
theorem test_Y14_lowest_source_first :
    after { prog [0x00] with ie := 0x1F, iflags := 0x14, ime := true }
      (fun t => t.pc == 0x0050 && t.iflags == 0x10 && t.ime == false) = true := by decide +kernel
theorem test_Y15_masked_request :
    after { prog [0x00] with ie := 0x01, iflags := 0x02, ime := true }
      (fun t => t.pc == 0xC001 && t.iflags == 0x02) = true := by decide +kernel
theorem test_Y16_if_read_upper_bits :
    after { prog [0xF0, 0x0F] with iflags := 0x1F, cfg := { ({} : Params) with intUpperBits := 0b111 } }
      (fun t => t.regs.a == 0xFF) = true := by decide +kernel
theorem test_Y17_ie_read :
    after { prog [0xFA, 0xFF, 0xFF] with ie := 0x1F }
      (fun t => t.regs.a == 0x1F) = true := by decide +kernel
theorem test_R351_external_request_is_merged :
    after { prog [0x00] with extIrq := [0x10] }
      (fun t => t.iflags == 0x10 && t.extIrq == []) = true := by decide +kernel
theorem test_R367_stalled :
    after { prog [0x3C] with stopped := true, cfg := { ({} : Params) with stopStalls := true } }
      (fun t => t.pc == 0xC000 && t.regs.a == 0x00 && t.cycles == 0) = true := by decide +kernel
theorem test_R313_ppu_follows_the_cycles :
    after { prog [0x00] with ppu := { State.reset.ppu with cycles := 78 } }
      (fun t => t.ppu.mode == .pixelTransfer && t.ppu.cycles == 2) = true := by decide +kernel
theorem test_R347_latch_is_terminal :
    after { prog [0x3C] with fault := some (.unusedWrite 0xFEA0) }
      (fun t => t.pc == 0xC000 && t.regs.a == 0x00 && t.fault == some (.unusedWrite 0xFEA0)) = true := by decide +kernel
theorem test_R86_port_write_is_seen :
    after { prog [0xE0, 0x01] with regs := { State.reset.regs with a := 0x42 } }
      (fun t => t.ioLog == [.write 0xFF01 0x42] && t.pc == 0xC002) = true := by decide +kernel
theorem test_R86_port_read_is_seen :
    after (prog [0xF0, 0x00])
      (fun t => t.ioLog == [.read 0xFF00] && t.pc == 0xC002) = true := by decide +kernel

/-! #### The boot overlay, construction, the PPU (R62, R87, R291 to R312) -/

theorem test_S5_overlay :
    let s := { State.reset with cfg := { ({} : Params) with bootRom := [(0x50, 0x11)], cartRom := [(0x50, 0xAB)] } }
    s.peek 0x0050 = 0x11 ∧ s.disableBootRom.peek 0x0050 = 0xAB := by decide +kernel
theorem test_bootoff_zero_keeps_the_overlay :
    after { prog [0xE0, 0x50] with regs := { State.reset.regs with a := 0x00 } } (fun t => t.bootRomEnabled) = true := by
  decide +kernel
theorem test_R346_boot_rom_size : construct [] [] {} = .error .bootRomSize := rfl
theorem test_S6_one_line : (State.reset.ppu.step 456).1 = { State.reset.ppu with ly := 1 } := by decide +kernel
theorem test_V1_surplus :
    let p := (State.reset.ppu.step 76).1
    p.cycles = 76 ∧ (p.step 24).1 = { State.reset.ppu with mode := .pixelTransfer, cycles := 20 } := by decide +kernel
theorem test_V3_several_lines :
    (State.reset.ppu.step 1456).1 = { State.reset.ppu with mode := .pixelTransfer, cycles := 8, ly := 3 } := by decide +kernel
theorem test_V7_vblank_entry_two_causes :
    let p := { State.reset.ppu with selVblank := true, selLyc := true, lyc := 144, ly := 143, mode := .hBlank, cycles := 203 }
    (p.step 1).2.mask = 0b00011 ∧ (p.step 1).1.readStat = 0x55 := by decide +kernel
theorem test_V8_wrap_to_line_0 :
    let p := { State.reset.ppu with selLyc := true, ly := 153, mode := .vBlank, cycles := 455 }
    (p.step 1).2.mask = 0b00010 ∧ (p.step 1).1.readStat = 0x46 := by decide +kernel
theorem test_V9_stat : State.reset.ppu.readStat = 0x06 ∧ (State.reset.ppu.writeStat 0xFF).readStat = 0x7E := by decide +kernel
theorem test_V11_V13_oam :
    let p := (((State.reset.ppu.writeOam 4 0x10).writeOam 5 0x20).writeOam 6 0x35).writeOam 7 0xA7
    Cells.read zeroObject p.objects 1 = ⟨0x10, 0x20, 0x35, 0xA⟩ ∧ (p.writeLcdc 0x04).objects = p.objects ∧
    Cells.read zeroObject ((p.writeLcdc 0x04).writeOam 4 0x11).objects 1 = ⟨0x11, 0x20, 0x34, 0xA⟩ := by decide +kernel
theorem test_V16_tile_row :
    let p := (State.reset.ppu.writeVram 0x10 0xFF).writeVram 0x11 0x0F
    Cells.read zeroRow p.tiles (tileKey 1 0) = ⟨1, 1, 1, 1, 3, 3, 3, 3⟩ := by decide +kernel
theorem test_V17_last_cached_byte :
    Cells.read zeroRow (State.reset.ppu.writeVram 0x17FF 0x80).tiles (tileKey 383 7) = ⟨2, 0, 0, 0, 0, 0, 0, 0⟩ := by decide +kernel
theorem test_V18_beyond_the_cache : (State.reset.ppu.writeVram 0x1800 0xFF).tiles = [] := by decide +kernel

/-! ### What the host asks of a table word -/

theorem test_fetch_word_runs_first :
    after (State.reset.withFetchWord 8 0x3C) (fun t => t.regs.a == 0x01 && t.pc == 0x0001) = true := by decide +kernel
theorem test_fetch_word_secondary :
    after (State.reset.withFetchWord 16 0xCBCB) (fun t => t.regs.e == 0x02 && t.pc == 0x0002) = true := by decide +kernel

/-! ### CYCLES as a function of the instruction (R7), and the end of a run (R392) -/

/-- A machine whose count differs between two instructions of one row of R395. -/
def twoCounts (code : List Byte) : State :=
  { prog code with cfg := { ({} : Params) with cycles := { listed := [((.ldRegReg .b .c, true), 8), ((.jrCond .z 0, false), 6)] } } }

theorem test_R7_listed_count : after (twoCounts [0x41]) (fun t => t.cycles == 8 && t.ppu.cycles == 8) = true := by decide +kernel
theorem test_R7_count_not_listed : after (twoCounts [0x53]) (fun t => t.cycles == 4) = true := by decide +kernel
theorem test_R7_count_not_taken : after (twoCounts [0x28, 0x00]) (fun t => t.cycles == 6) = true := by decide +kernel
theorem test_R392_ended :
    State.ended State.reset = false ∧ (prog [0x18, 0xFE]).ended = true ∧ ({ State.reset with halted := true } : State).ended = true ∧
    (latched (.unusedWrite 0xFEA0) State.reset).ended = true := by decide +kernel
theorem test_core_is_the_machine : Sys2Proof.core.reset = State.reset := rfl

/-! ### Witnesses: for each statement with hypotheses, a state and operands that meet them, clause by clause at the bounds -/

/-- The machine with the fault policy for ROM writes. -/
def romFaults : State := { State.reset with cfg := { ({} : Params) with romWrite := .fault } }

theorem witness_Writable :
    Writable State.reset 0xFE9F ∧ Writable State.reset 0xFF00 ∧ Writable State.reset 0x7FFF ∧ Writable romFaults 0x8000 := by
  unfold Writable Unused Rom; decide
theorem witness_Unused : Unused 0xFEA0 ∧ Unused 0xFEFF := by unfold Unused; decide
theorem witness_Rom : Rom 0x0000 ∧ Rom 0x7FFF ∧ romFaults.cfg.romWrite = .fault := by unfold Rom; decide

/-- `StoresByte`: each of its three clauses, at an address that HL, BC, DE or an immediate can hold. -/
theorem witness_StoresByte :
    Writable romFaults 0xFFFF ∧ Unused 0xFEA0 ∧ (Rom 0x7FFF ∧ romFaults.cfg.romWrite = .fault) := by
  unfold Writable Unused Rom; decide

/-- `StoresTwo` with the second address one higher (LD (nn),SP): each of its five clauses. -/
theorem witness_StoresTwo_ascending :
    (Writable romFaults 0xDFFF ∧ Writable romFaults (0xDFFF + 1)) ∧ Unused 0xFEFF ∧ (Rom 0x0000 ∧ romFaults.cfg.romWrite = .fault) ∧
    (Writable romFaults 0xFE9F ∧ Unused (0xFE9F + 1)) ∧ (Writable romFaults 0xFFFF ∧ Rom (0xFFFF + 1)) := by
  unfold Writable Unused Rom; decide

/-- `StoresTwo` for a push (calls, RST, dispatch): each of its five clauses, with sp at the bound. -/
theorem witness_StoresTwo_push :
    (Writable romFaults (0x0000 - 1) ∧ Writable romFaults (0x0000 - 2)) ∧ Unused (0xFEA1 - 1) ∧
    (Rom (0x0001 - 1) ∧ romFaults.cfg.romWrite = .fault) ∧
    (Writable romFaults (0xFF01 - 1) ∧ Unused (0xFF01 - 2)) ∧ (Writable romFaults (0x8001 - 1) ∧ Rom (0x8001 - 2)) := by
  unfold Writable Unused Rom; decide

theorem witness_DecodeEncodeRoundTrip : Instr.wf (.stop 0xFF) = true ∧ Instr.wf (.illegal 0xD3) = true := by decide
theorem witness_EncodeDecodeRoundTrip : decode [0xCB, 0xFF, 0x12] = .ok (.set_7_a, [0x12]) := rfl
theorem witness_LengthIsFixedByTheOpcode :
    (0xCB : Byte) = 0xCB ∧ (∃ t, exec (.jr_z_e 0x7F) State.reset = .next t ∧ t.fault = none) ∧
    takesTarget State.reset.flags (effKind (.jr_z_e 0x7F)) = false ∧ takesTarget State.reset.flags (effKind (.jr_nz_e 0x7F)) = true :=
  ⟨rfl, ⟨_, rfl, rfl⟩, rfl, rfl⟩
theorem witness_UnmappedOpcodesAreFatal :
    decodeInstr 0xFD 0x00 0x00 = .illegal 0xFD ∧ Fetching (prog [0xD3]) ∧
    ∃ op', decodeInstr ((prog [0xD3]).peek (prog [0xD3]).pc) 0 0 = .illegal op' := by
  refine ⟨rfl, ?_, 0xD3, by decide +kernel⟩
  unfold Fetching Running pending; decide +kernel
theorem witness_RegisterLoads : Instr.kind .ld_b_a = .ldRegReg .b .a ∧ Instr.kind (.ld_a_n 0xFF) = .ldRegImm .a 0xFF := ⟨rfl, rfl⟩
theorem witness_LoadsFromMemory : Instr.kind .ld_h_atHL = .ldRegHL .h := rfl
theorem witness_StoresOfOneByte : Instr.kind .ld_atHL_l = .ldHLReg .l := rfl
theorem witness_PushPair : Instr.kind .push_bc = .push .bc ∧ Instr.kind .push_af = .push .af := ⟨rfl, rfl⟩
theorem witness_PushThenPopRestores :
    let s : State := { State.reset with sp := 0xE000 }
    Instr.kind .push_af = .push .af ∧ Instr.kind .pop_af = .pop .af ∧ s.storageWf = true ∧ PlainRam (s.sp - 1) ∧ PlainRam (s.sp - 2) := by
  unfold PlainRam; decide
theorem witness_AccumulatorForms :
    Instr.kind .cp_a = .alu .cp (.reg .a) ∧ Instr.kind .xor_atHL = .alu .xor .atHL ∧ Instr.kind (.or_n 0xFF) = .alu .or (.imm 0xFF) :=
  ⟨rfl, rfl, rfl⟩
theorem witness_AddAndAddWithCarry :
    Instr.kind .add_a_b = .alu .add (.reg .b) ∧ Instr.kind .adc_a_atHL = .alu .adc .atHL := ⟨rfl, rfl⟩
theorem witness_SubtractAndCompare :
    Instr.kind (.sub_n 0) = .alu .sub (.imm 0) ∧ Instr.kind .sbc_a_a = .alu .sbc (.reg .a) ∧ Instr.kind .cp_atHL = .alu .cp .atHL :=
  ⟨rfl, rfl, rfl⟩
theorem witness_LogicForcesHalfCarry :
    Instr.kind .and_a = .alu .and (.reg .a) ∧ Instr.kind .xor_a = .alu .xor (.reg .a) ∧ Instr.kind .or_atHL = .alu .or .atHL :=
  ⟨rfl, rfl, rfl⟩
theorem witness_IncrementDecrementByte :
    Instr.kind .inc_a = .inc8 (.reg .a) ∧ Instr.kind .inc_atHL = .inc8 .atHL ∧ Instr.kind .dec_b = .dec8 (.reg .b) ∧
    Instr.kind .dec_atHL = .dec8 .atHL := ⟨rfl, rfl, rfl, rfl⟩
theorem witness_DecimalAdditionIsExact :
    let s : State := { State.reset with regs := { State.reset.regs with a := 0x99, b := 0x09 } }
    99 < 100 ∧ 9 < 100 ∧ s.regs.a = bcd 99 ∧ s.regs.b = bcd 9 := by decide
theorem witness_WordArithmetic :
    Instr.kind .add_hl_sp = .addHL .sp ∧ Instr.kind .inc_bc = .incPair .bc ∧ Instr.kind .dec_sp = .decPair .sp := ⟨rfl, rfl, rfl⟩
theorem witness_AccumulatorRotates : Instr.kind .rlca = .accRotate .rlca ∧ Instr.kind .rra = .accRotate .rra := ⟨rfl, rfl⟩
theorem witness_GeneralRotatesAndShifts :
    Instr.kind .rlc_b = .cbRotate .rlc (.reg .b) ∧ Instr.kind .srl_atHL = .cbRotate .srl .atHL := ⟨rfl, rfl⟩
theorem witness_BitInstructions :
    Instr.kind .bit_7_h = .bitTest 7 (.reg .h) ∧ Instr.kind .res_0_atHL = .bitReset 0 .atHL ∧
    Instr.kind .set_7_a = .bitSet 7 (.reg .a) := ⟨rfl, rfl, rfl⟩
theorem witness_JumpsTakeTheirCondition :
    Instr.kind (.jp_nz_nn 0xFFFF) = .jpCond .nz 0xFFFF ∧ Instr.kind (.jr_c_e 0x80) = .jrCond .c 0x80 := ⟨rfl, rfl⟩
theorem witness_CallsPushTheReturnAddress :
    Instr.kind (.call_z_nn 0x4000) = .callCond .z 0x4000 ∧ Cond.holds .z (fl 0b1000) = true ∧ Cond.holds .z (fl 0b0111) = false ∧
    Instr.kind .rst_38 = .rst 7 := ⟨rfl, rfl, rfl, rfl⟩
theorem witness_ReturnsPopTheReturnAddress : Instr.kind .ret_nc = .retCond .nc := rfl
theorem witness_StepRunsTheDecodedInstruction :
    Fetching (prog [0xC3, 0x00, 0x80]) ∧
    decode [(atFetch (prog [0xC3, 0x00, 0x80])).peek 0xC000, (prog [0xC3, 0x00, 0x80]).peek 0xC001,
      (prog [0xC3, 0x00, 0x80]).peek 0xC002] = .ok (.jp_nn 0x8000, []) := by
  constructor
  · unfold Fetching Running pending; decide +kernel
  · rfl
theorem witness_FaultLatchIsTerminal : (latched (.unusedWrite 0xFEA0) State.reset).fault.isSome = true := rfl
theorem witness_HaltedEngine :
    let s : State := { State.reset with halted := true }
    let u : State := { s with ie := 0x10, iflags := 0x10 }
    (Running s ∧ s.halted = true ∧ pending s = 0 ∧ ∃ t, step s = .next t) ∧ Running u ∧ u.halted = true ∧ pending u ≠ 0 := by
  refine ⟨⟨?_, rfl, by decide, _, rfl⟩, ?_, rfl, by decide⟩ <;> (unfold Running; decide)
theorem witness_InterruptDispatch_lowest :
    let s : State := { State.reset with ime := true, ie := 0x1F, iflags := 0x1F }
    Running s ∧ s.ime = true ∧ s.ie.getLsbD 0 = true ∧ s.iflags.getLsbD 0 = true ∧
    ∀ k : Nat, k < 0 → ¬(s.ie.getLsbD k = true ∧ s.iflags.getLsbD k = true) := by
  refine ⟨?_, rfl, by decide, by decide, fun k h => absurd h (Nat.not_lt_zero k)⟩
  unfold Running; decide
theorem witness_InterruptDispatch_highest :
    let s : State := { State.reset with ime := true, ie := 0x1F, iflags := 0x10 }
    Running s ∧ s.ime = true ∧ s.ie.getLsbD 4 = true ∧ s.iflags.getLsbD 4 = true ∧
    ∀ k : Nat, k < 4 → ¬(s.ie.getLsbD k = true ∧ s.iflags.getLsbD k = true) := by
  refine ⟨?_, rfl, by decide, by decide, by decide⟩
  unfold Running; decide
theorem witness_EnableTakesEffect_first :
    let s := prog [0xFB]
    Fetching s ∧ s.ime = false ∧ s.imeScheduled = false ∧ s.peek s.pc = 0xFB ∧ ∃ t, step s = .next t := by
  refine ⟨?_, rfl, rfl, by decide +kernel, _, rfl⟩
  unfold Fetching Running pending; decide +kernel
theorem witness_EnableTakesEffect_second :
    let s : State := { prog [0x00] with imeScheduled := true }
    Running s ∧ s.ime = false ∧ s.halted = false ∧ s.imeScheduled = true ∧ ∃ t, step s = .next t ∧ t.fault = none := by
  refine ⟨?_, rfl, rfl, rfl, _, rfl, by decide +kernel⟩
  unfold Running; decide
theorem witness_StoppedEngine :
    let s : State := { State.reset with stopped := true, cfg := { ({} : Params) with stopStalls := true } }
    s.fault = none ∧ s.cfg.stopStalls = true ∧ s.stopped = true ∧ State.reset.cfg.stopStalls = false := by decide

/-- The bounds of `Port`: the first and the last address, the neighbours of a register, and what is no port. -/
theorem witness_Port : Port 0xFF00 ∧ Port 0xFF7F ∧ Port 0xFF46 ∧ Port 0xFF4F ∧ ¬Port 0xFEFF ∧ ¬Port 0xFF80 ∧ ¬Port 0xFF50 := by
  unfold Port
  refine ⟨?_, ?_, ?_, ?_, ?_, ?_, ?_⟩ <;> decide

/-- Every clause of `RegionsRead` and `RegionsWrite` at both ends of its range: the region the address leads to. -/
theorem witness_Regions :
    ([0x0000, 0x00FF] : List Word).map (route true) = [.bootRom 0, .bootRom 0xFF] ∧
    ([0x0000, 0x00FF, 0x0100, 0x7FFF] : List Word).map (route false) = [.cartRom 0, .cartRom 0xFF, .cartRom 0x100, .cartRom 0x7FFF] ∧
    ([0x0100, 0x8000, 0x9FFF, 0xA000, 0xBFFF] : List Word).map (route true) =
      [.cartRom 0x100, .vram 0, .vram 0x1FFF, .eram 0, .eram 0x1FFF] ∧
    ([0xC000, 0xDFFF, 0xE000, 0xFDFF] : List Word).map (route true) = [.wram 0, .wram 0x1FFF, .wram 0, .wram 0x1DFF] ∧
    ([0xFE00, 0xFE9F, 0xFEA0, 0xFEFF, 0xFF00, 0xFF7F] : List Word).map (route true) =
      [.oam 0, .oam 0x9F, .unused, .unused, .ioPort, .ioPort] ∧
    ([0xFF0F, 0xFF40, 0xFF41, 0xFF44, 0xFF45, 0xFF50] : List Word).map (route true) = [.ifReg, .lcdc, .stat, .ly, .lyc, .bootOff] ∧
    ([0xFF80, 0xFFFE, 0xFFFF] : List Word).map (route true) = [.hram 0, .hram 0x7E, .ieReg] := by decide

theorem witness_WrittenByteReadsBack :
    State.reset.storageWf = true ∧ (∃ u, writeByte 0xDDFF 0xFF State.reset = .done u ∧ u.peek 0xFDFF = 0xFF) ∧
    (∃ u, writeByte 0xE000 0x01 State.reset = .done u ∧ u.peek 0xC000 = 0x01) ∧
    (∃ u, writeByte 0xFFFE 0x01 State.reset = .done u) ∧ Apart 0xDDFF 0xDE00 ∧ ¬Apart 0xDDFF 0xFDFF ∧ ¬Apart 0xFDFF 0xDDFF := by
  refine ⟨by decide, ⟨_, rfl, by decide +kernel⟩, ⟨_, rfl, by decide +kernel⟩, ⟨_, rfl⟩, ?_⟩
  unfold Apart; decide
theorem witness_InstructionMemoryFrame :
    let s : State := { prog [] with regs := { State.reset.regs with h := 0xC0, l := 0x10 } }
    (∃ t, exec .inc_atHL s = .next t) ∧ storedAt s (effKind .inc_atHL) = [0xC010] ∧ Apart 0xC011 0xC010 ∧
    (∃ t, exec .nop s = .next t) ∧ storedAt s (effKind .nop) = [] := by
  refine ⟨⟨_, rfl⟩, rfl, ?_, ⟨_, rfl⟩, rfl⟩
  unfold Apart; decide
theorem witness_InstructionRegisterFrame :
    (∃ t, exec .pop_af State.reset = .next t) ∧ Reg8.b ∉ destRegs (effKind .pop_af) ∧ writesSp (effKind .nop) = false ∧
    writesZ (effKind .scf) = false ∧ writesN (effKind .daa) = false ∧ writesH (effKind (.jp_nn 0)) = false ∧
    writesC (effKind .inc_bc) = false ∧ effKind (.cbPrefix 0x37) = .cbRotate .swap (.reg .a) := by
  refine ⟨⟨_, rfl⟩, ?_⟩; decide
theorem witness_VramWriteRefreshesItsRow :
    State.reset.ppu.vram.wf = true ∧ Cells.wf zeroRow State.reset.ppu.tiles = true ∧ 0x17FF < 0x1800 ∧ 0x1800 < 0x2000 := by decide
theorem witness_OamWriteDecodesItsRecord :
    State.reset.ppu.oam.wf = true ∧ Cells.wf zeroObject State.reset.ppu.objects = true ∧ 0x9F < 0xA0 := by decide

/-- A PPU in mode `m` one cycle before the mode ends. -/
def ending (m : PpuMode) (ly : Byte) : Ppu := { State.reset.ppu with mode := m, cycles := m.duration - 1, ly := ly }

/-- One PPU state for each clause, LY at a bound of its range. -/
theorem witness_ModeEnds :
    ((ending .oamScan 0).LyOk ∧ (ending .pixelTransfer 143).LyOk ∧ (ending .hBlank 143).LyOk ∧ (ending .hBlank 0).LyOk ∧
      (ending .vBlank 153).LyOk ∧ (ending .vBlank 144).LyOk) ∧
    ∀ m ∈ ([.oamScan, .pixelTransfer, .hBlank, .vBlank] : List PpuMode),
      (ending m 0).cycles < (ending m 0).mode.duration ∧ (ending m 0).cycles + 1 = (ending m 0).mode.duration := by
  constructor
  · unfold Ppu.LyOk; simp only [ending]; decide
  · decide
/-- Each clause of `OamScanEndsOnce` at a bound of its range: T at 79, 80 and 455, and a call that brings T from 79 to 251. -/
theorem witness_OamScanEndsOnce :
    (ending .oamScan 143).mode = .oamScan ∧ (ending .oamScan 143).cycles < 80 ∧ (fed (ending .oamScan 143) [0]).mode = .oamScan ∧
    (fed (ending .oamScan 143) [1]).mode = .pixelTransfer ∧
    (Ppu.step (fed (ending .oamScan 143) [0]) 172).1 = { ending .oamScan 143 with mode := .pixelTransfer, cycles := 171 } ∧
    (fed (ending .oamScan 143) [1, 375]).mode = .hBlank := by decide
theorem witness_PpuStepIsAdditive : State.reset.ppu.CounterOk := by unfold Ppu.CounterOk; decide
theorem witness_FrameTimeline : State.reset.ppu.mode = .oamScan ∧ State.reset.ppu.cycles = 0 ∧ State.reset.ppu.ly = 0 := by decide
theorem witness_AtMostOneTransitionPerStep :
    State.reset.cfg.cycles = defaults ∧ State.reset.ppu.CounterOk ∧ State.reset.ppu.LyOk ∧ ∃ t, step State.reset = .next t := by
  refine ⟨rfl, ?_, ?_, _, rfl⟩
  · unfold Ppu.CounterOk; decide
  · show (0 : Byte).toNat < 144; decide
theorem witness_StepKeepsPpuTiming :
    (ending .vBlank 153).CounterOk ∧ (ending .vBlank 153).LyOk ∧
      ∃ t, step { State.reset with ppu := ending .vBlank 153 } = .next t := by
  refine ⟨?_, ?_, _, rfl⟩
  · unfold Ppu.CounterOk; decide
  · show 144 ≤ (153 : Byte).toNat ∧ (153 : Byte).toNat ≤ 153; decide

/-- A machine whose VRAM, tile cache, OAM and object entries are not empty. -/
def drawn : State := { prog [0x22] with ppu := (State.reset.ppu.writeVram 0x11 0x80).writeOam 6 0x35 }

theorem witness_StepKeepsStorageForm : drawn.storageWf = true ∧ drawn.sizesOk = true ∧ ∃ t, step drawn = .next t := by
  refine ⟨by decide +kernel, by decide +kernel, _, rfl⟩
theorem witness_StepKeepsTileCache : State.reset.storageWf = true ∧ State.reset.ppu.TilesOk ∧ ∃ t, step State.reset = .next t := by
  refine ⟨by decide, ?_, _, rfl⟩
  intro t row _ _
  show zeroRow = tileRow 0 0
  decide
theorem witness_StepKeepsObjectEntries : drawn.storageWf = true ∧ drawn.ppu.ObjectsOk ∧ ∃ t, step drawn = .next t := by
  refine ⟨by decide +kernel, ?_, _, rfl⟩
  intro k hk
  refine ⟨false, ?_⟩
  have : ∀ k < 40, Cells.read zeroObject drawn.ppu.objects k = decodeObject drawn.ppu.oam false k := by decide +kernel
  exact this k hk
theorem witness_StepAnswersAndKeepsConfiguration :
    ({ State.reset with bootRomEnabled := false } : State).bootRomEnabled = false ∧ (0x7FFF : Word).toNat < 0x8000 := by decide
theorem witness_CycleTableDoesNotInfluenceInstructions : ∃ t, exec .push_bc State.reset = .next t := ⟨_, rfl⟩
theorem witness_DerivedViewsAreNotRead :
    withoutViews drawn = withoutViews { drawn with ppu := { drawn.ppu with tiles := [] } } ∧ (∃ t, step drawn = .next t) ∧
    ∃ t, step { drawn with ppu := { drawn.ppu with tiles := [] } } = .next t := ⟨rfl, ⟨_, rfl⟩, _, rfl⟩
theorem witness_ResetState : Memory.wf ({} : Params).initMem.vram = true := by decide
theorem witness_ConstructionChecksTheImages :
    ([] : List Byte).length ≠ 256 ∧ (List.replicate 256 (0 : Byte)).length = 256 ∧ ([] : List Byte).length < 0x8000 ∧
    0x8000 ≤ (List.replicate 0x8000 (0 : Byte)).length ∧ (0x0FF : Word).toNat < 0x100 ∧ 0x100 ≤ (0x7FFF : Word).toNat :=
  ⟨by decide, List.length_replicate, by decide, Nat.le_of_eq List.length_replicate.symm, by decide, by decide⟩

end Sys2Proof.Tests
end

section
/-! What every step keeps of the arrays. An instruction, a dispatch and the PPU's step change the arrays by bus writes
alone, and a bus write stores one byte below the size of the array it names (R61), with the derived entry it belongs to
(R292, R298). A property of the arrays is therefore an invariant of the step once those five writes keep it. -/

namespace Sys2Proof.Machine

/-! ### The derived views: one entry re-derived -/

theorem Cells.wf_refreshTile {tiles : Cells TileRow} (hw : Cells.wf zeroRow tiles) (vram : Memory) (i : Nat) :
    Cells.wf zeroRow (refreshTile vram tiles i) := by
  unfold refreshTile
  split
  · exact Cells.wf_write _ hw _ _
  · exact hw

/-- The row of a VRAM offset below 0x1800 is one of 384 tiles' 8 rows (R294). -/
theorem tileKey_lt {i : Nat} (hi : i < 0x1800) : tileKey (i / 16) (i % 16 / 2) < 384 * 8 := by
  unfold tileKey
  omega

theorem boundedBy_refreshTile {tiles : Cells TileRow} (hb : boundedBy (384 * 8) tiles) (vram : Memory) (i : Nat) :
    boundedBy (384 * 8) (refreshTile vram tiles i) := by
  unfold refreshTile
  split
  case isTrue hi => exact Cells.bounded_write _ hb (tileKey_lt hi) _
  case isFalse => exact hb

/-! ### Properties of the arrays -/

/-- Two states with the same seven arrays: the five memories, the tile cache, the object entries. -/
structure SameArrays (s t : State) : Prop where
  wram : t.wram = s.wram
  eram : t.eram = s.eram
  hram : t.hram = s.hram
  vram : t.ppu.vram = s.ppu.vram
  oam : t.ppu.oam = s.ppu.oam
  tiles : t.ppu.tiles = s.ppu.tiles
  objects : t.ppu.objects = s.ppu.objects

theorem SameBus.sameArrays {s t : State} (h : SameBus s t) : SameArrays s t :=
  ⟨h.wram, h.eram, h.hram, by rw [h.ppu], by rw [h.ppu], by rw [h.ppu], by rw [h.ppu]⟩

/-- The PPU's step writes no array (R306 to R310). -/
theorem SameArrays.finishStep (ext : IntSet) (s : State) : SameArrays s (finishStep ext s) :=
  ⟨rfl, rfl, rfl, Ppu.step_vram _ _, Ppu.step_oam _ _, Ppu.step_tiles _ _, Ppu.step_objects _ _⟩

/-- A property of the arrays that the five kinds of array write keep, each below the size of its array (R33 to R37). -/
structure ArrayStable (P : State → Prop) : Prop where
  congr : ∀ {s t}, SameArrays s t → P s → P t
  writeWram : ∀ {s i} v, i < 0x2000 → P s → P { s with wram := s.wram.write i v }
  writeEram : ∀ {s i} v, i < 0x2000 → P s → P { s with eram := s.eram.write i v }
  writeHram : ∀ {s i} v, i < 0x7F → P s → P { s with hram := s.hram.write i v }
  writeVram : ∀ {s i} v, i < 0x2000 → P s → P { s with ppu := s.ppu.writeVram i v }
  writeOam : ∀ {s i} v, i < 0xA0 → P s → P { s with ppu := s.ppu.writeOam i v }

theorem ArrayStable.written {P : State → Prop} (h : ArrayStable P) {s : State} (a : Word) (v : Byte) (hp : P s) :
    P (s.written a v) := by
  have hb : (s.target a).Bounded := route_bounded s.bootRomEnabled a
  unfold State.written
  cases ht : s.target a with rw [ht] at hb
  | wram i => exact h.writeWram v hb hp
  | eram i => exact h.writeEram v hb hp
  | hram i => exact h.writeHram v hb hp
  | vram i => exact h.writeVram v hb hp
  | oam i => exact h.writeOam v hb hp
  | bootOff =>
    dsimp only
    split
    · exact hp
    · exact h.congr (by constructor <;> rfl) hp
  | _ => exact h.congr (by constructor <;> rfl) hp

theorem ArrayStable.stableStep {P : State → Prop} (h : ArrayStable P) : StableStep P where
  core hs hp := h.congr hs.sameArrays hp
  write a v _ hp := h.written a v hp
  finish ext hp := h.congr (SameArrays.finishStep ext _) hp
  acknowledge _ hp := h.congr (by constructor <;> rfl) hp
  drop hp := h.congr (by constructor <;> rfl) hp

/-- What a step keeps holds of the state the step answers. -/
theorem StableStep.step_next {P : State → Prop} (h : StableStep P) {s t : State} (hs : Machine.step s = .next t)
    (hp : P s) : P t := by
  obtain ⟨u, hu, hpu⟩ := h.step hp
  cases hs.symm.trans hu
  exact hpu

/-! ### Canonical form and sizes -/

/-- The canonical form, array by array. -/
theorem storageWf_iff (s : State) :
    s.storageWf = true ↔ s.wram.wf = true ∧ s.eram.wf = true ∧ s.hram.wf = true ∧ s.ppu.vram.wf = true ∧
      s.ppu.oam.wf = true ∧ Cells.wf zeroRow s.ppu.tiles = true ∧ Cells.wf zeroObject s.ppu.objects = true := by
  simp [State.storageWf, and_assoc]

/-- The sizes, array by array. -/
theorem sizesOk_iff (s : State) :
    s.sizesOk = true ↔ boundedBy 0x2000 s.wram = true ∧ boundedBy 0x2000 s.eram = true ∧ boundedBy 0x7F s.hram = true ∧
      boundedBy 0x2000 s.ppu.vram = true ∧ boundedBy 0xA0 s.ppu.oam = true ∧
      boundedBy (384 * 8) s.ppu.tiles = true ∧ boundedBy 40 s.ppu.objects = true := by
  simp only [State.sizesOk, Bool.and_eq_true, and_assoc]

/-- Canonical form needs no bound: a write keeps it at any offset. -/
theorem storageWf_arrayStable : ArrayStable fun s => s.storageWf = true where
  congr hs hp := by
    obtain ⟨hw, he, hh, hv, ho, ht, hj⟩ := hs
    simpa only [storageWf_iff, hw, he, hh, hv, ho, ht, hj] using hp
  writeWram v _ hp := by
    obtain ⟨hw, hrest⟩ := (storageWf_iff _).1 hp
    exact (storageWf_iff _).2 ⟨Memory.wf_write hw _ v, hrest⟩
  writeEram v _ hp := by
    obtain ⟨hw, he, hrest⟩ := (storageWf_iff _).1 hp
    exact (storageWf_iff _).2 ⟨hw, Memory.wf_write he _ v, hrest⟩
  writeHram v _ hp := by
    obtain ⟨hw, he, hh, hrest⟩ := (storageWf_iff _).1 hp
    exact (storageWf_iff _).2 ⟨hw, he, Memory.wf_write hh _ v, hrest⟩
  writeVram v _ hp := by
    obtain ⟨hw, he, hh, hv, ho, ht, hj⟩ := (storageWf_iff _).1 hp
    exact (storageWf_iff _).2 ⟨hw, he, hh, Memory.wf_write hv _ v, ho, Cells.wf_refreshTile ht _ _, hj⟩
  writeOam v _ hp := by
    obtain ⟨hw, he, hh, hv, ho, ht, hj⟩ := (storageWf_iff _).1 hp
    exact (storageWf_iff _).2 ⟨hw, he, hh, hv, Memory.wf_write ho _ v, ht, Cells.wf_write _ hj _ _⟩

/-- A write below the size of its array re-derives an entry below the size of its view: four OAM bytes an entry (R39). -/
theorem sizesOk_arrayStable : ArrayStable fun s => s.sizesOk = true where
  congr hs hp := by
    obtain ⟨hw, he, hh, hv, ho, ht, hj⟩ := hs
    simpa only [sizesOk_iff, hw, he, hh, hv, ho, ht, hj] using hp
  writeWram v hi hp := by
    obtain ⟨hw, hrest⟩ := (sizesOk_iff _).1 hp
    exact (sizesOk_iff _).2 ⟨Cells.bounded_write _ hw hi v, hrest⟩
  writeEram v hi hp := by
    obtain ⟨hw, he, hrest⟩ := (sizesOk_iff _).1 hp
    exact (sizesOk_iff _).2 ⟨hw, Cells.bounded_write _ he hi v, hrest⟩
  writeHram v hi hp := by
    obtain ⟨hw, he, hh, hrest⟩ := (sizesOk_iff _).1 hp
    exact (sizesOk_iff _).2 ⟨hw, he, Cells.bounded_write _ hh hi v, hrest⟩
  writeVram v hi hp := by
    obtain ⟨hw, he, hh, hv, ho, ht, hj⟩ := (sizesOk_iff _).1 hp
    exact (sizesOk_iff _).2 ⟨hw, he, hh, Cells.bounded_write _ hv hi v, ho, boundedBy_refreshTile ht _ _, hj⟩
  writeOam v hi hp := by
    obtain ⟨hw, he, hh, hv, ho, ht, hj⟩ := (sizesOk_iff _).1 hp
    exact (sizesOk_iff _).2
      ⟨hw, he, hh, hv, Cells.bounded_write _ ho hi v, ht, Cells.bounded_write _ hj (by omega) _⟩

/-- Every step keeps the canonical form. -/
theorem storageWf_step {s t : State} (hs : step s = .next t) (hw : s.storageWf = true) : t.storageWf = true :=
  storageWf_arrayStable.stableStep.step_next hs hw

/-- Every step keeps every array within its size. -/
theorem sizesOk_step {s t : State} (hs : step s = .next t) (hb : s.sizesOk = true) : t.sizesOk = true :=
  sizesOk_arrayStable.stableStep.step_next hs hb

/-- Settles O53: canonical form and sizes are each a property of the arrays that every array write keeps. -/
theorem stepKeepsStorageForm : Obligations.StepKeepsStorageForm := by
  unfold Obligations.StepKeepsStorageForm
  intro s t hw hb hs
  exact ⟨storageWf_step hs hw, sizesOk_step hs hb⟩

end Sys2Proof.Machine
end

section
/-! The PPU's timing and its derived views through a step (R296, R298, R306 to R310). A transition keeps LY in the range of
the mode, and the loop ends below the mode's duration; a bus write re-derives the one entry its byte belongs to and
leaves the bytes of every other entry alone. -/

namespace Sys2Proof.Machine

/-! ### The counter and LY -/

theorem Ppu.CounterOk.congr {p q : Ppu} (hm : q.mode = p.mode) (hc : q.cycles = p.cycles) (h : p.CounterOk) :
    q.CounterOk := by
  unfold Ppu.CounterOk at *
  rwa [hm, hc]

theorem Ppu.LyOk.congr {p q : Ppu} (hm : q.mode = p.mode) (hl : q.ly = p.ly) (h : p.LyOk) : q.LyOk := by
  unfold Ppu.LyOk at *
  rwa [hm, hl]

/-- A transition keeps LY in the range of the mode: 144 is met on the way into VBlank and 153 on the way out (R309, R310). -/
theorem Ppu.lyOk_modeEnd {p : Ppu} (h : p.LyOk) : p.modeEnd.1.LyOk := by
  unfold Ppu.modeEnd
  cases hm : p.mode with
  | oamScan => simpa [Ppu.LyOk, hm] using h
  | pixelTransfer => simpa [Ppu.LyOk, hm] using h
  | hBlank =>
    have hly : p.ly.toNat < 144 := by simpa [Ppu.LyOk, hm] using h
    dsimp only
    split
    case isTrue h144 => simp only [Ppu.LyOk, h144]; decide
    case isFalse h144 => simp only [Ppu.LyOk]; bv_omega
  | vBlank =>
    have hly : 144 ≤ p.ly.toNat ∧ p.ly.toNat ≤ 153 := by simpa [Ppu.LyOk, hm] using h
    dsimp only
    split
    case isTrue h153 => simp [Ppu.LyOk]
    case isFalse h153 => simp only [Ppu.LyOk]; bv_omega

theorem Ppu.lyOk_loop (fuel : Nat) {p : Ppu} (r : InterruptRequest) (h : p.LyOk) : (Ppu.loop fuel p r).1.LyOk := by
  induction fuel generalizing p r with
  | zero => exact h
  | succ n ih =>
    rw [Ppu.loop]
    split
    · exact ih _ (Ppu.lyOk_modeEnd (h.congr rfl rfl))
    · exact h

/-- With fuel for the counter the loop ends inside a mode: each transition takes at least 80 cycles off (R305, R306). -/
theorem Ppu.counterOk_loop {fuel : Nat} {p : Ppu} (r : InterruptRequest) (hf : p.cycles < 80 * fuel) :
    (Ppu.loop fuel p r).1.CounterOk := by
  induction fuel generalizing p r with
  | zero => omega
  | succ n ih =>
    rw [Ppu.loop]
    split
    case isTrue hd =>
      have h80 := PpuMode.duration_ge p.mode
      exact ih _ (by rw [Ppu.modeEnd_cycles]; dsimp only; omega)
    case isFalse hd => exact Nat.lt_of_not_le hd

theorem Ppu.lyOk_step {p : Ppu} (n : Nat) (h : p.LyOk) : (p.step n).1.LyOk :=
  Ppu.lyOk_loop _ _ (h.congr rfl rfl)

/-- A step of any length from any counter leaves the counter inside its mode. -/
theorem Ppu.counterOk_step (p : Ppu) (n : Nat) : (p.step n).1.CounterOk :=
  Ppu.counterOk_loop _ (by dsimp only; omega)

/-- A bus write touches neither the mode nor the counter nor LY; the PPU's step keeps both ranges. -/
theorem ppuTiming_stableStep : StableStep fun s => s.ppu.CounterOk ∧ s.ppu.LyOk where
  core hs hp := by rwa [hs.ppu]
  write a v _ hp := ⟨hp.1.congr (by simp) (by simp), hp.2.congr (by simp) (by simp)⟩
  finish _ hp := ⟨Ppu.counterOk_step _ _, Ppu.lyOk_step _ hp.2⟩
  acknowledge _ hp := hp
  drop hp := hp

/-- Settles O50: the two ranges are one property that bus writes leave alone and the PPU's loop keeps. -/
theorem stepKeepsPpuTiming : Obligations.StepKeepsPpuTiming := by
  unfold Obligations.StepKeepsPpuTiming
  intro s t hc hl hs
  exact ppuTiming_stableStep.step_next hs ⟨hc, hl⟩

/-! ### The derived views -/

/-- A property of VRAM, OAM and their two views is an invariant, with the canonical form, once the two PPU writes keep it. -/
theorem ppuViews_arrayStable {Q : Ppu → Prop}
    (congr : ∀ {p q : Ppu}, q.vram = p.vram → q.oam = p.oam → q.tiles = p.tiles → q.objects = p.objects →
      Q p → Q q)
    (writeVram : ∀ {p : Ppu} (i : Nat) (v : Byte), Cells.wf zeroRow p.tiles → Q p → Q (p.writeVram i v))
    (writeOam : ∀ {p : Ppu} (i : Nat) (v : Byte), Cells.wf zeroObject p.objects → Q p → Q (p.writeOam i v)) :
    ArrayStable fun s => s.storageWf = true ∧ Q s.ppu where
  congr hs hp := ⟨storageWf_arrayStable.congr hs hp.1, congr hs.vram hs.oam hs.tiles hs.objects hp.2⟩
  writeWram v hi hp := ⟨storageWf_arrayStable.writeWram v hi hp.1, hp.2⟩
  writeEram v hi hp := ⟨storageWf_arrayStable.writeEram v hi hp.1, hp.2⟩
  writeHram v hi hp := ⟨storageWf_arrayStable.writeHram v hi hp.1, hp.2⟩
  writeVram v hi hp := by
    obtain ⟨_, _, _, _, _, ht, _⟩ := (storageWf_iff _).1 hp.1
    exact ⟨storageWf_arrayStable.writeVram v hi hp.1, writeVram _ v ht hp.2⟩
  writeOam v hi hp := by
    obtain ⟨_, _, _, _, _, _, hj⟩ := (storageWf_iff _).1 hp.1
    exact ⟨storageWf_arrayStable.writeOam v hi hp.1, writeOam _ v hj hp.2⟩

theorem Ppu.TilesOk.congr {p q : Ppu} (hv : q.vram = p.vram) (ht : q.tiles = p.tiles) (h : p.TilesOk) : q.TilesOk := by
  unfold Ppu.TilesOk at *
  rwa [hv, ht]

/-- A row depends on its own two bytes only (R294). -/
theorem tileRowOf_write_other (vram : Memory) {t row i : Nat} (v : Byte) (h0 : i ≠ 16 * t + 2 * row)
    (h1 : i ≠ 16 * t + 2 * row + 1) : tileRowOf (vram.write i v) t row = tileRowOf vram t row := by
  unfold tileRowOf
  rw [Memory.read_write_other _ _ h0.symm, Memory.read_write_other _ _ h1.symm]

/-- A VRAM write re-derives the row its byte belongs to; every other row keeps its key and its bytes (R292). -/
theorem Ppu.tilesOk_writeVram {p : Ppu} (i : Nat) (v : Byte) (hw : Cells.wf zeroRow p.tiles) (h : p.TilesOk) :
    (p.writeVram i v).TilesOk := by
  intro t row ht hr
  dsimp only [Ppu.writeVram, refreshTile]
  by_cases hown : t = i / 16 ∧ row = i % 16 / 2
  · obtain ⟨rfl, rfl⟩ := hown
    rw [if_pos (by omega), Cells.read_write_same _ hw]
  · rw [tileRowOf_write_other (t := t) (row := row) _ _ (by omega) (by omega), ← h t row ht hr]
    split
    · exact Cells.read_write_other _ _ _ (by unfold tileKey; omega)
    · rfl

theorem tileCache_arrayStable : ArrayStable fun s => s.storageWf = true ∧ s.ppu.TilesOk :=
  ppuViews_arrayStable (fun hv _ ht _ h => h.congr hv ht) Ppu.tilesOk_writeVram fun _ _ _ h => h.congr rfl rfl

/-- Settles O51: of the array writes only a VRAM write meets the cache, and it re-derives its row. -/
theorem stepKeepsTileCache : Obligations.StepKeepsTileCache := by
  unfold Obligations.StepKeepsTileCache
  intro s t hw hp hs
  exact (tileCache_arrayStable.stableStep.step_next hs ⟨hw, hp⟩).2

theorem Ppu.ObjectsOk.congr {p q : Ppu} (ho : q.oam = p.oam) (hj : q.objects = p.objects) (h : p.ObjectsOk) :
    q.ObjectsOk := by
  unfold Ppu.ObjectsOk at *
  rwa [ho, hj]

/-- A record depends on its own four bytes only (R298). -/
theorem decodeObject_write_other (oam : Memory) (size16 : Bool) {k i : Nat} (v : Byte) (h : k ≠ i / 4) :
    decodeObject (oam.write i v) size16 k = decodeObject oam size16 k := by
  unfold decodeObject
  rw [Memory.read_write_other _ _ (show 4 * k ≠ i by omega), Memory.read_write_other _ _ (show 4 * k + 1 ≠ i by omega),
    Memory.read_write_other _ _ (show 4 * k + 2 ≠ i by omega), Memory.read_write_other _ _ (show 4 * k + 3 ≠ i by omega)]

/-- An OAM write decodes its record in the size of that moment; every other entry keeps its record and its size (R299). -/
theorem Ppu.objectsOk_writeOam {p : Ppu} (i : Nat) (v : Byte) (hw : Cells.wf zeroObject p.objects) (h : p.ObjectsOk) :
    (p.writeOam i v).ObjectsOk := by
  intro k hk
  dsimp only [Ppu.writeOam]
  by_cases hown : k = i / 4
  · subst hown
    exact ⟨p.objSize16, Cells.read_write_same _ hw _ _⟩
  · obtain ⟨size16, hread⟩ := h k hk
    exact ⟨size16, by rw [Cells.read_write_other _ _ _ hown, hread, decodeObject_write_other _ _ _ hown]⟩

theorem objectEntries_arrayStable : ArrayStable fun s => s.storageWf = true ∧ s.ppu.ObjectsOk :=
  ppuViews_arrayStable (fun _ ho _ hj h => h.congr ho hj) (fun _ _ _ h => h.congr rfl rfl) Ppu.objectsOk_writeOam

/-- Settles O52: of the array writes only an OAM write meets the entries, and it decodes its record anew. -/
theorem stepKeepsObjectEntries : Obligations.StepKeepsObjectEntries := by
  unfold Obligations.StepKeepsObjectEntries
  intro s t hw hp hs
  exact (objectEntries_arrayStable.stableStep.step_next hs ⟨hw, hp⟩).2

end Sys2Proof.Machine
end

section
/-! The address map, region by region (R61 to R74): where each range and each register address leads, so that what a read
and a write of a region do is the meaning of its target alone. -/

namespace Sys2Proof.Machine

open Sys2Proof.Claims

/-! ### Where an address leads -/

section
variable {s : State} {a : Word}

theorem target_bootRom (ho : s.bootRomEnabled = true) (h : a.toNat ≤ 0x00FF) : s.target a = .bootRom a.toNat := by
  unfold State.target route
  rw [if_pos (by simp [ho]; omega)]

theorem target_cartRom (ho : s.bootRomEnabled = true → 0x0100 ≤ a.toNat) (h : a.toNat ≤ 0x7FFF) :
    s.target a = .cartRom a.toNat := by
  unfold State.target route
  rw [if_neg (by grind), if_pos (by omega)]

theorem target_vram (h1 : 0x8000 ≤ a.toNat) (h2 : a.toNat ≤ 0x9FFF) : s.target a = .vram (a.toNat - 0x8000) := by
  unfold State.target route
  grind

theorem target_eram (h1 : 0xA000 ≤ a.toNat) (h2 : a.toNat ≤ 0xBFFF) : s.target a = .eram (a.toNat - 0xA000) := by
  unfold State.target route
  grind

theorem target_wram (h1 : 0xC000 ≤ a.toNat) (h2 : a.toNat ≤ 0xDFFF) : s.target a = .wram (a.toNat - 0xC000) := by
  unfold State.target route
  grind

theorem target_echo (h1 : 0xE000 ≤ a.toNat) (h2 : a.toNat ≤ 0xFDFF) : s.target a = .wram (a.toNat - 0xE000) := by
  unfold State.target route
  grind

theorem target_oam (h1 : 0xFE00 ≤ a.toNat) (h2 : a.toNat ≤ 0xFE9F) : s.target a = .oam (a.toNat - 0xFE00) := by
  unfold State.target route
  grind

theorem target_unused (h : Unused a) : s.target a = .unused := (route_unused_iff _ _).2 h

theorem target_hram (h1 : 0xFF80 ≤ a.toNat) (h2 : a.toNat ≤ 0xFFFE) : s.target a = .hram (a.toNat - 0xFF80) := by
  unfold State.target route
  grind

theorem target_io (h1 : 0xFF00 ≤ a.toNat) (h2 : a.toNat ≤ 0xFF7F) : s.target a = routeIo a.toNat := by
  unfold State.target route
  grind

/-- The port's range without the six registers, and nothing else, leads to the port (R74, R86). -/
theorem target_ioPort_iff : s.target a = .ioPort ↔ Port a := by
  by_cases hio : 0xFF00 ≤ a.toNat ∧ a.toNat ≤ 0xFF7F
  · simp only [target_io hio.1 hio.2, Port, routeIo, hio, ne_eq, ← BitVec.toNat_inj]
    grind
  · have hp : ¬Port a := fun h => hio ⟨h.1, h.2.1⟩
    simp only [hp, iff_false]
    unfold State.target route
    grind

end

/-! ### Bits as numbers -/

/-- A concatenation as a number, the high part counting `2 ^ n`. -/
theorem toNat_append_add {m n : Nat} (x : BitVec m) (y : BitVec n) : (x ++ y).toNat = x.toNat * 2 ^ n + y.toNat := by
  rw [BitVec.toNat_append, ← Nat.shiftLeft_add_eq_or_of_lt y.isLt, Nat.shiftLeft_eq]

theorem ite_eq_mul_toNat (b : Bool) (k : Nat) : (if b then k else 0) = k * b.toNat := by cases b <;> simp

/-- STAT as a sum of its bits (R301). -/
theorem Ppu.readStat_toNat (p : Ppu) :
    p.readStat.toNat = p.mode.number.toNat + (if p.ly = p.lyc then 4 else 0) + (if p.selHblank then 8 else 0) +
      (if p.selVblank then 16 else 0) + (if p.selOam then 32 else 0) + (if p.selLyc then 64 else 0) := by
  simp only [Ppu.readStat, toNat_append_add, BitVec.toNat_ofBool, ← beq_iff_eq (a := p.ly), ite_eq_mul_toNat,
    Bool.toNat_false]
  omega

/-! ### What a read and a write of each region do -/

/-- Settles O38: each region's read is the meaning of the target its addresses lead to. -/
theorem regionsRead : Obligations.RegionsRead := by
  unfold Obligations.RegionsRead
  intro s a
  refine ⟨rfl, ?bootRom, ?cartLow, ?cart, ?vram, ?eram, ?wram, ?echo, ?oam, ?unused, ?hram, rfl, rfl, rfl, rfl, rfl, rfl,
    ?stat, ?port, ?others⟩
  case bootRom => intro ho h; rw [State.peek, target_bootRom ho h]
  case cartLow => intro ho h; rw [State.peek, target_cartRom (by simp [ho]) (by omega)]
  case cart => intro h1 h2; rw [State.peek, target_cartRom (fun _ => h1) h2]
  case vram => intro h1 h2; rw [State.peek, target_vram h1 h2]
  case eram => intro h1 h2; rw [State.peek, target_eram h1 h2]
  case wram => intro h1 h2; rw [State.peek, target_wram h1 h2]
  case echo => intro h1 h2; rw [State.peek, target_echo h1 h2]
  case oam => intro h1 h2; rw [State.peek, target_oam h1 h2]
  case unused => intro h1 h2; rw [State.peek, target_unused ⟨h1, h2⟩]
  case hram => intro h1 h2; rw [State.peek, target_hram h1 h2]
  case stat => exact s.ppu.readStat_toNat.trans (by cases s.ppu.mode <;> rfl)
  case port =>
    intro hp
    have ht := (target_ioPort_iff (s := s)).2 hp
    exact ⟨by rw [State.peek, ht], noteRead_ioPort s ht⟩
  case others => exact fun hp => noteRead_of_ne s fun ht => hp (target_ioPort_iff.1 ht)

/-- Settles O39: each region's write is the one update of the target its addresses lead to. -/
theorem regionsWrite : Obligations.RegionsWrite := by
  unfold Obligations.RegionsWrite
  intro s a v
  refine ⟨?rom, ?vram, ?eram, ?wram, ?echo, ?oam, ?unused, ?hram, rfl, rfl, rfl, rfl, rfl, rfl, ?bootOff, ?port, rfl⟩
  case rom =>
    intro h
    obtain ⟨i, hi⟩ | ⟨i, hi⟩ := (route_rom_iff s.bootRomEnabled a).2 (by omega)
    · rw [writeByte, State.target, hi]; cases s.cfg.romWrite <;> rfl
    · rw [writeByte, State.target, hi]; cases s.cfg.romWrite <;> rfl
  case vram => intro h1 h2; rw [writeByte, target_vram h1 h2]
  case eram => intro h1 h2; rw [writeByte, target_eram h1 h2]
  case wram => intro h1 h2; rw [writeByte, target_wram h1 h2]
  case echo => intro h1 h2; rw [writeByte, target_echo h1 h2]
  case oam => intro h1 h2; rw [writeByte, target_oam h1 h2]
  case unused => intro h; rw [writeByte, target_unused h]; rfl
  case hram => intro h1 h2; rw [writeByte, target_hram h1 h2]
  case bootOff =>
    show Access.done (if v = 0 then s else s.disableBootRom) = _
    split
    case isTrue hv => subst hv; simp
    case isFalse hv => rw [beq_eq_false_iff_ne.2 hv, Bool.and_false]; rfl
  case port => intro hp; rw [writeByte, target_ioPort_iff.2 hp]

end Sys2Proof.Machine
end

section
/-! The stack (R22 to R24, R164 to R166): pairs and AF as numbers, what a pop answers, and that a pop from plain RAM gives
back what a push put there. -/

namespace Sys2Proof.Machine

open Sys2Proof.Claims

/-! ### AF -/

/-- The flags byte as a sum of its bits (R22). -/
theorem Flags.pack_toNat (f : Flags) :
    f.pack.toNat = (if f.z then 128 else 0) + (if f.n then 64 else 0) + (if f.h then 32 else 0) +
      (if f.c then 16 else 0) := by
  simp only [Flags.pack, toNat_append_add, BitVec.toNat_ofBool, ite_eq_mul_toNat, BitVec.toNat_ofNat]
  omega

/-- Packing an unpacked byte clears its low nibble (R22, R23). -/
theorem Flags.pack_unpack (b : Byte) : (Flags.unpack b).pack = b &&& 0xF0 := by
  revert b
  decide

theorem setAF_eq (s : State) (v : Word) :
    s.setAF v = { s with
      regs := { s.regs with a := v.extractLsb' 8 8 }
      flags := ⟨v.getLsbD 7, v.getLsbD 6, v.getLsbD 5, v.getLsbD 4⟩ } := by
  simp [State.setAF, Flags.unpack, loByte, hiByte]

theorem getAF_toNat (s : State) :
    s.getAF.toNat = 256 * s.regs.a.toNat + (if s.flags.z then 128 else 0) + (if s.flags.n then 64 else 0) +
      (if s.flags.h then 32 else 0) + (if s.flags.c then 16 else 0) := by
  rw [State.getAF, joinBytes_toNat, Flags.pack_toNat]
  omega

theorem joinBytes_and (h1 l1 h2 l2 : Byte) : joinBytes h1 l1 &&& joinBytes h2 l2 = joinBytes (h1 &&& h2) (l1 &&& l2) :=
  BitVec.and_append

/-- AF does not round-trip: the low nibble of the word written is lost (R22 to R24). -/
theorem getAF_setAF (s : State) (v : Word) : (s.setAF v).getAF = v &&& 0xFFF0 :=
  calc (s.setAF v).getAF
    _ = joinBytes (hiByte v &&& BitVec.allOnes 8) (loByte v &&& 0xF0) := by
      rw [State.getAF, State.setAF, Flags.pack_unpack, BitVec.and_allOnes]
    _ = joinBytes (hiByte v) (loByte v) &&& 0xFFF0 := (joinBytes_and _ _ 0xFF 0xF0).symm
    _ = v &&& 0xFFF0 := by rw [joinBytes_hi_lo]

/-- Settles O57: a pair is the join of its bytes, and joining the bytes of a word gives the word. -/
theorem pairViews : Obligations.PairViews := by
  unfold Obligations.PairViews
  refine ⟨fun r => ?_, fun r v => ⟨by simp, by simp, by simp, rfl, rfl, rfl⟩, fun r v => ?_, fun s => ?_⟩
  · simp only [Regs.bc, Regs.de, Regs.hl, joinBytes_toNat]
    omega
  · simp only [Regs.bc, Regs.de, Regs.hl, Regs.set, joinBytes_toNat]
    omega
  · rw [getAF_setAF]
    decide

/-! ### Popping -/

/-- A pop: the byte at sp is the low one, the byte at sp+1, read after it, the high one (R165). -/
theorem pop16_eq (s : State) :
    pop16 s = (joinBytes ((s.noteRead s.sp).peek (s.sp + 1)) (s.peek s.sp),
      { (s.noteRead s.sp).noteRead (s.sp + 1) with sp := s.sp + 2 }) := by
  simp [pop16, readWord, readByte]

theorem popPair_eq (q : StackPair) (s : State) :
    popPair q s = .next ((({ (s.noteRead s.sp).noteRead (s.sp + 1) with sp := s.sp + 2 } : State).setStackPair q
      (joinBytes ((s.noteRead s.sp).peek (s.sp + 1)) (s.peek s.sp))).advance 1 (s.count (.pop q) true)) := by
  rw [popPair, pop16_eq]

/-- Settles O13: the four pops are one operation on the popped word, which each pair takes apart in its own way. -/
theorem popPair_spec : Obligations.PopPair := by
  unfold Obligations.PopPair
  refine ⟨fun s => ⟨?bc, ?de, ?hl, ?af⟩, by decide, by decide, by decide, by decide, fun q => rfl, getAF_toNat,
    fun s v => ⟨setAF_eq s v, getAF_setAF s v⟩⟩
  case bc =>
    show popPair .bc s = _
    rw [popPair_eq]
    simp [State.setStackPair, State.advance, Regs.setBC]
  case de =>
    show popPair .de s = _
    rw [popPair_eq]
    simp [State.setStackPair, State.advance, Regs.setDE]
  case hl =>
    show popPair .hl s = _
    rw [popPair_eq]
    simp [State.setStackPair, State.advance, Regs.setHL]
  case af =>
    show popPair .af s = _
    rw [popPair_eq]
    simp [State.setStackPair, State.advance, State.setAF, Flags.unpack]

/-! ### A push into plain RAM and the pop after it -/

section
variable {s : State} {a b : Word}

/-- Plain RAM is external RAM, working RAM or high RAM. -/
theorem plainRam_regions (h : PlainRam a) :
    (0xA000 ≤ a.toNat ∧ a.toNat ≤ 0xBFFF) ∨ (0xC000 ≤ a.toNat ∧ a.toNat ≤ 0xDFFF) ∨
      (0xFF80 ≤ a.toNat ∧ a.toNat ≤ 0xFFFE) := by
  unfold PlainRam at h
  omega

theorem noteRead_plainRam (h : PlainRam a) : s.noteRead a = s :=
  noteRead_of_ne s fun ht => by
    obtain ⟨hlo, hhi, _⟩ := target_ioPort_iff.1 ht
    unfold PlainRam at h
    omega

theorem writeByte_plainRam (h : PlainRam a) (v : Byte) : writeByte a v s = .done (s.written a v) := by
  have ha : s.accepts a = true := by
    unfold PlainRam at h
    exact (accepts_iff s a).2 ⟨by omega, by omega⟩
  rw [writeByte_eq, if_pos ha]

theorem peek_written_same (h : PlainRam a) (hw : s.storageWf = true) (v : Byte) :
    (s.written a v).peek a = v := by
  obtain ⟨hwram, heram, hhram, _⟩ := (storageWf_iff s).1 hw
  obtain ⟨h1, h2⟩ | ⟨h1, h2⟩ | ⟨h1, h2⟩ := plainRam_regions h
  · simp [State.peek, State.written, target_eram h1 h2, Memory.read_write_same heram]
  · simp [State.peek, State.written, target_wram h1 h2, Memory.read_write_same hwram]
  · simp [State.peek, State.written, target_hram h1 h2, Memory.read_write_same hhram]

/-- Different bytes of plain RAM lie in different arrays or at different offsets: no mirror is plain RAM. -/
theorem peek_written_other (ha : PlainRam a) (hb : PlainRam b) (hne : b ≠ a) (v : Byte) :
    (s.written a v).peek b = s.peek b := by
  have hn : b.toNat ≠ a.toNat := fun h => hne (BitVec.eq_of_toNat_eq h)
  have hread (m : Memory) {base : Nat} (h1 : base ≤ b.toNat) (h2 : base ≤ a.toNat) :
      (m.write (a.toNat - base) v).read (b.toNat - base) = m.read (b.toNat - base) :=
    Memory.read_write_other m v (by omega)
  obtain ⟨h1, h2⟩ | ⟨h1, h2⟩ | ⟨h1, h2⟩ := plainRam_regions ha <;>
  obtain ⟨h3, h4⟩ | ⟨h3, h4⟩ | ⟨h3, h4⟩ := plainRam_regions hb <;>
  simp [State.peek, State.written, target_eram, target_wram, target_hram, h1, h2, h3, h4, hread]

/-- A pop from plain RAM reads two bytes and nothing sees it. -/
theorem pop16_plainRam (h0 : PlainRam s.sp) (h1 : PlainRam (s.sp + 1)) :
    pop16 s = (joinBytes (s.peek (s.sp + 1)) (s.peek s.sp), { s with sp := s.sp + 2 }) := by
  rw [pop16_eq, noteRead_plainRam h0, noteRead_plainRam h1]

end

/-- The state after a push that goes through: the high byte at sp-1, the low byte at sp-2, sp lower by 2 (R164). -/
def State.pushed (s : State) (v : Word) : State :=
  { (s.written (s.sp - 1) (hiByte v)).written (s.sp - 2) (loByte v) with sp := s.sp - 2 }

@[simp] theorem pushed_sp (s : State) (v : Word) : (s.pushed v).sp = s.sp - 2 := rfl
@[simp] theorem pushed_regs (s : State) (v : Word) : (s.pushed v).regs = s.regs := by simp [State.pushed]
@[simp] theorem pushed_flags (s : State) (v : Word) : (s.pushed v).flags = s.flags := by simp [State.pushed]

section
variable {s : State} (h1 : PlainRam (s.sp - 1)) (h2 : PlainRam (s.sp - 2))
include h1 h2

theorem push16_plainRam (v : Word) : push16 v s = .done (s.pushed v) := by
  rw [push16, writeByte_plainRam h1, Access.andThen, writeByte_plainRam h2, Access.map, State.pushed,
    written_sp, written_sp]

theorem peek_pushed_high (hw : s.storageWf = true) (v : Word) : (s.pushed v).peek (s.sp - 1) = hiByte v :=
  calc (s.pushed v).peek (s.sp - 1)
    _ = (s.written (s.sp - 1) (hiByte v)).peek (s.sp - 1) := peek_written_other h2 h1 (by bv_omega) _
    _ = hiByte v := peek_written_same h1 hw _

omit h1 in
theorem peek_pushed_low (hw : s.storageWf = true) (v : Word) : (s.pushed v).peek (s.sp - 2) = loByte v :=
  peek_written_same h2 (storageWf_arrayStable.written _ _ hw) _

/-- What is popped after a push is the word pushed, whatever pc and the report have become in between. -/
theorem pop16_pushed (hw : s.storageWf = true) (v : Word) (len : Word) (n : Nat) :
    pop16 ((s.pushed v).advance len n) = (v, { (s.pushed v).advance len n with sp := s.sp }) := by
  have hlow : s.sp - 2 + 1 = s.sp - 1 := by bv_omega
  have hback : s.sp - 2 + 2 = s.sp := by bv_omega
  rw [pop16_plainRam h2 (show PlainRam (s.sp - 2 + 1) from hlow ▸ h1)]
  simp only [advance_sp, pushed_sp, hlow, hback]
  congr 1
  calc joinBytes (((s.pushed v).advance len n).peek (s.sp - 1)) (((s.pushed v).advance len n).peek (s.sp - 2))
    _ = joinBytes (hiByte v) (loByte v) := congrArg₂ _ (peek_pushed_high h1 h2 hw v) (peek_pushed_low h2 hw v)
    _ = v := joinBytes_hi_lo v

end

/-- Writing to a pair what it holds changes neither the registers nor the flags; AF too, since F has no low nibble (R22). -/
theorem setStackPair_stackPair (s t : State) (q : StackPair) (hr : t.regs = s.regs) (hf : t.flags = s.flags) :
    (t.setStackPair q (s.stackPair q)).regs = s.regs ∧ (t.setStackPair q (s.stackPair q)).flags = s.flags := by
  cases q <;> simp [State.setStackPair, State.stackPair, State.setAF, State.getAF, hr, hf]

/-- Settles O14: the word popped is the word pushed, and a pair takes back the word it gave. -/
theorem pushThenPopRestores : Obligations.PushThenPopRestores := by
  unfold Obligations.PushThenPopRestores
  intro i j q s hi hj hw h1 h2
  have hpush : exec i s = .next ((s.pushed (s.stackPair q)).advance 1 (s.count (.push q) true)) := by
    rw [exec_eq_runKind, hi]
    simp only [runKind, pushPair, push16_plainRam h1 h2]
    rfl
  refine ⟨_, _, hpush, by rw [exec_eq_runKind, hj]; rfl, rfl, ?_⟩
  rw [pop16_pushed h1 h2 hw]
  exact ⟨by simp, setStackPair_stackPair _ _ _ (by simp) (by simp)⟩

end Sys2Proof.Machine
end

section
/-! What a latched fault does to a step, and what no step can change: the latch is only set, the parameters stand, and the
boot overlay is only turned off (R29, R31, R87, R347). -/

namespace Sys2Proof.Machine

/-- A latched fault stalls the engine (R347). -/
theorem step_latched {s : State} (h : s.fault.isSome = true) :
    step s = .next { s with extIrq := s.extIrq.tail, cycles := 0 } := by
  have hstall : s.dropExt.stalled = true := by simp [State.stalled, h]
  rw [step, stepWith, if_pos hstall]
  rfl

/-- Settles O33: a latched step is a stall, and of the host's acts only a reset writes the latch. -/
theorem faultLatchIsTerminal : Obligations.FaultLatchIsTerminal := by
  unfold Obligations.FaultLatchIsTerminal
  exact ⟨fun _ h => step_latched h, fun _ => ⟨rfl, rfl, rfl⟩, rfl⟩

/-- No step writes the parameters, and none turns the overlay on. -/
theorem configuration_stableStep (p : Params) (o : Bool) :
    StableStep fun s => s.cfg = p ∧ (o = false → s.bootRomEnabled = false) where
  core hs hp := by rwa [hs.cfg, hs.bootRomEnabled]
  write a v _ hp := ⟨by simpa using hp.1, fun ho => by simp [written_bootRomEnabled, hp.2 ho]⟩
  finish _ hp := hp
  acknowledge _ hp := hp
  drop hp := hp

/-- With the overlay off, the first half of the map reads the cartridge image (R63, R64). -/
theorem peek_rom {s : State} {a : Word} (ho : s.bootRomEnabled = false) (ha : a.toNat < 0x8000) :
    s.peek a = Memory.read s.cfg.cartRom a.toNat := by
  rw [State.peek, target_cartRom (by simp [ho]) (by omega)]

/-- Settles O54: every step answers a state with these parameters and no more overlay, and a ROM read depends on those two. -/
theorem stepAnswersAndKeepsConfiguration : Obligations.StepAnswersAndKeepsConfiguration := by
  unfold Obligations.StepAnswersAndKeepsConfiguration
  intro s
  obtain ⟨t, hs, hcfg, hoff⟩ := (configuration_stableStep s.cfg s.bootRomEnabled).step (s := s) ⟨rfl, id⟩
  exact ⟨t, hs, hcfg, hoff, fun ho a ha => by rw [peek_rom (hoff ho) ha, peek_rom ho ha, hcfg]⟩

end Sys2Proof.Machine
end

section
/-! What an instruction changes of the registers, the flags and the execution state (R21, R26 to R28). The frame of a kind
is a relation between the state before and a state reached from it; every update an instruction is made of keeps it, so
that a meaning is framed by naming its updates in their order. -/

namespace Sys2Proof.Machine

open Sys2Proof.Claims

/-! ### The kind of a secondary opcode -/

/-- The secondary instruction that `op2` selects, by its fields (R110). -/
def cbKind (op2 : Byte) : Kind :=
  match (op2.extractLsb' 6 2).toNat with
  | 0 => .cbRotate (CbRot.ofCode (op2.extractLsb' 3 3)) (Loc8.ofCode (op2.extractLsb' 0 3))
  | 1 => .bitTest (op2.extractLsb' 3 3) (Loc8.ofCode (op2.extractLsb' 0 3))
  | 2 => .bitReset (op2.extractLsb' 3 3) (Loc8.ofCode (op2.extractLsb' 0 3))
  | _ => .bitSet (op2.extractLsb' 3 3) (Loc8.ofCode (op2.extractLsb' 0 3))

theorem cbExecute_eq_runKind (op2 : Byte) (s : State) : cbExecute op2 s = runKind (cbKind op2) s := by
  unfold cbExecute cbKind
  generalize (op2.extractLsb' 6 2).toNat = x
  match x with
  | 0 | 1 | 2 | _ + 3 => rfl

/-- The secondary table, entry by entry, is laid out by the fields of the opcode (R110). -/
theorem kind_decodeInstr_cb (op2 : Byte) : (decodeInstr 0xCB op2 0).kind = cbKind op2 := by
  revert op2
  decide +kernel

/-- The kinds of the secondary table (R110). -/
def Kind.secondary : Kind → Bool
  | .cbRotate _ _ | .bitTest _ _ | .bitReset _ _ | .bitSet _ _ => true
  | _ => false

theorem secondary_cbKind (op2 : Byte) : (cbKind op2).secondary = true := by
  unfold cbKind
  split <;> rfl

/-- The effect of an instruction is the meaning of the kind it stands for (R275). -/
theorem exec_eq_runKind_effKind (i : Instr) (s : State) : exec i s = runKind (effKind i) s := by
  rw [exec_eq_runKind, effKind]
  split
  case h_1 op2 hk => rw [hk, kind_decodeInstr_cb]; exact cbExecute_eq_runKind op2 s
  case h_2 => rfl

/-- A kind that stands in the primary table only is the effect of its own instructions only. -/
theorem kind_of_effKind {i : Instr} {k : Kind} (h : effKind i = k) (hk : k.secondary = false) : i.kind = k := by
  rw [effKind] at h
  split at h
  case h_1 op2 _ =>
    rw [← h, kind_decodeInstr_cb, secondary_cbKind] at hk
    cases hk
  case h_2 => exact h

/-- The byte 0xCB is never an effect of its own: it stands for a secondary instruction (R275). -/
theorem effKind_ne_cbPrefix (i : Instr) (op2 : Byte) : effKind i ≠ .cbPrefix op2 := by
  intro h
  have hk := kind_of_effKind h rfl
  rw [effKind, hk] at h
  dsimp only at h
  have hs := secondary_cbKind op2
  rw [← kind_decodeInstr_cb, h] at hs
  cases hs

/-! The kinds that write the execution state have one instruction each. -/

theorem eq_di_of_kind {i : Instr} (h : i.kind = .di) : i = .di := by cases i <;> cases h; rfl
theorem eq_ei_of_kind {i : Instr} (h : i.kind = .ei) : i = .ei := by cases i <;> cases h; rfl
theorem eq_reti_of_kind {i : Instr} (h : i.kind = .reti) : i = .reti := by cases i <;> cases h; rfl
theorem eq_halt_of_kind {i : Instr} (h : i.kind = .halt) : i = .halt := by cases i <;> cases h; rfl
theorem eq_stop_of_kind {i : Instr} {pad : Byte} (h : i.kind = .stop pad) : i = .stop pad := by cases i <;> cases h; rfl

/-! ### The frame of a kind -/

/-- What a state reached by the updates of kind `k` from `s` still has of `s`. -/
structure RegFrame (k : Kind) (s t : State) : Prop where
  regs : ∀ r, r ∉ destRegs k → t.regs.get r = s.regs.get r
  sp : writesSp k = false → t.sp = s.sp
  flagZ : writesZ k = false → t.flags.z = s.flags.z
  flagN : writesN k = false → t.flags.n = s.flags.n
  flagH : writesH k = false → t.flags.h = s.flags.h
  flagC : writesC k = false → t.flags.c = s.flags.c
  ime : k ≠ .di → k ≠ .reti → t.ime = s.ime
  imeScheduled : k ≠ .di → k ≠ .ei → t.imeScheduled = s.imeScheduled
  halted : k ≠ .halt → t.halted = s.halted
  stopped : (∀ pad, k ≠ .stop pad) → t.stopped = s.stopped
  fault : s.fault.isSome = true → t.fault.isSome = true
  mode : t.ppu.mode = s.ppu.mode
  counter : t.ppu.cycles = s.ppu.cycles
  ly : t.ppu.ly = s.ppu.ly
  cfg : t.cfg = s.cfg
  extIrq : t.extIrq = s.extIrq

namespace RegFrame

theorem refl (k : Kind) (s : State) : RegFrame k s s := by constructor <;> simp

section
variable {k : Kind} {s t u : State}

theorem trans (h : RegFrame k s t) (j : RegFrame k t u) : RegFrame k s u where
  regs r hr := (j.regs r hr).trans (h.regs r hr)
  sp hk := (j.sp hk).trans (h.sp hk)
  flagZ hk := (j.flagZ hk).trans (h.flagZ hk)
  flagN hk := (j.flagN hk).trans (h.flagN hk)
  flagH hk := (j.flagH hk).trans (h.flagH hk)
  flagC hk := (j.flagC hk).trans (h.flagC hk)
  ime hd hr := (j.ime hd hr).trans (h.ime hd hr)
  imeScheduled hd he := (j.imeScheduled hd he).trans (h.imeScheduled hd he)
  halted hk := (j.halted hk).trans (h.halted hk)
  stopped hk := (j.stopped hk).trans (h.stopped hk)
  fault hf := j.fault (h.fault hf)
  mode := j.mode.trans h.mode
  counter := j.counter.trans h.counter
  ly := j.ly.trans h.ly
  cfg := j.cfg.trans h.cfg
  extIrq := j.extIrq.trans h.extIrq

/-! Updates that every kind may make: pc, the report, the bus and the latch. -/

theorem advance (h : RegFrame k s t) (len : Word) (n : Nat) : RegFrame k s (t.advance len n) := { h with }

theorem jumpTo (h : RegFrame k s t) (target : Word) (n : Nat) : RegFrame k s (t.jumpTo target n) := { h with }

theorem raise (h : RegFrame k s t) (f : Fatal) : RegFrame k s (t.raise f) := { h with fault := fun _ => rfl }

theorem noteRead (h : RegFrame k s t) (a : Word) : RegFrame k s (t.noteRead a) := h.trans (by constructor <;> simp)

theorem written (h : RegFrame k s t) (a : Word) (v : Byte) : RegFrame k s (t.written a v) :=
  h.trans (by constructor <;> simp)

/-! Updates of a register or a flag: the kind names it as written, or the value is the one it had. -/

theorem setReg (h : RegFrame k s t) {r : Reg8} {v : Byte} (hr : r ∈ destRegs k ∨ v = s.regs.get r) :
    RegFrame k s (t.setReg r v) :=
  { h with
    regs := fun j hj => by
      by_cases hjr : j = r
      · subst hjr
        exact (Regs.get_set_same _ _ _).trans (hr.resolve_left hj)
      · exact (Regs.get_set_other _ _ hjr).trans (h.regs j hj) }

theorem setSp (h : RegFrame k s t) (hk : writesSp k = true) (v : Word) : RegFrame k s { t with sp := v } :=
  { h with sp := fun hn => by simp [hk] at hn }

theorem setFlags (h : RegFrame k s t) (f : Flags) (hz : writesZ k = true ∨ f.z = s.flags.z)
    (hn : writesN k = true ∨ f.n = s.flags.n) (hh : writesH k = true ∨ f.h = s.flags.h)
    (hc : writesC k = true ∨ f.c = s.flags.c) : RegFrame k s (t.setFlags f) :=
  { h with
    flagZ := fun hk => hz.resolve_left (by simp [hk])
    flagN := fun hk => hn.resolve_left (by simp [hk])
    flagH := fun hk => hh.resolve_left (by simp [hk])
    flagC := fun hk => hc.resolve_left (by simp [hk]) }

/-- A kind whose rule writes all four flags. -/
theorem setAllFlags (h : RegFrame k s t) (f : Flags)
    (hk : writesZ k = true ∧ writesN k = true ∧ writesH k = true ∧ writesC k = true) : RegFrame k s (t.setFlags f) :=
  h.setFlags f (.inl hk.1) (.inl hk.2.1) (.inl hk.2.2.1) (.inl hk.2.2.2)

theorem setHL (h : RegFrame k s t) (v : Word) (hh : .h ∈ destRegs k) (hl : .l ∈ destRegs k) : RegFrame k s (t.setHL v) :=
  (h.setReg (v := hiByte v) (.inl hh)).setReg (v := loByte v) (.inl hl)

theorem setPair (h : RegFrame k s t) {p : Pair} (v : Word) (hp : destRegs k = pairRegs p)
    (hsp : p = .sp → writesSp k = true) : RegFrame k s (t.setPair p v) := by
  cases p with
  | bc =>
    have hhi : .b ∈ destRegs k := hp ▸ .head _
    have hlo : .c ∈ destRegs k := hp ▸ .tail _ (.head _)
    exact (h.setReg (v := hiByte v) (.inl hhi)).setReg (v := loByte v) (.inl hlo)
  | de =>
    have hhi : .d ∈ destRegs k := hp ▸ .head _
    have hlo : .e ∈ destRegs k := hp ▸ .tail _ (.head _)
    exact (h.setReg (v := hiByte v) (.inl hhi)).setReg (v := loByte v) (.inl hlo)
  | hl => exact h.setHL v (hp ▸ .head _) (hp ▸ .tail _ (.head _))
  | sp => exact h.setSp (hsp rfl) v

theorem setStackPair {q : StackPair} (h : RegFrame (.pop q) s t) (v : Word) : RegFrame (.pop q) s (t.setStackPair q v) := by
  cases q with
  | bc =>
    exact (h.setReg (r := .b) (v := hiByte v) (.inl (by decide))).setReg (r := .c) (v := loByte v) (.inl (by decide))
  | de =>
    exact (h.setReg (r := .d) (v := hiByte v) (.inl (by decide))).setReg (r := .e) (v := loByte v) (.inl (by decide))
  | hl => exact h.setHL v (by decide) (by decide)
  | af => exact (h.setReg (r := .a) (v := hiByte v) (.inl (by decide))).setAllFlags (Flags.unpack (loByte v)) (by decide)

/-! Operations made of these updates. -/

theorem readLoc (h : RegFrame k s t) (d : Loc8) : RegFrame k s (readLoc d t).2 := by
  cases d with
  | reg r => exact h
  | atHL => exact h.noteRead _

theorem readSrc (h : RegFrame k s t) (v : Src8) : RegFrame k s (readSrc v t).2 := by
  cases v with
  | reg r => exact h
  | atHL => exact h.noteRead _
  | imm n => exact h

theorem pop16 (h : RegFrame k s t) (hk : writesSp k = true) : RegFrame k s (pop16 t).2 :=
  ((h.noteRead _).noteRead _).setSp hk _

theorem writeByte (h : RegFrame k s t) (a : Word) (v : Byte) : RegFrame k s (writeByte a v t).state := by
  rw [writeByte_eq]
  split
  · exact h.written a v
  · exact h.raise _

theorem writeLoc (h : RegFrame k s t) (d : Loc8) (v : Byte) (hd : ∀ r, d = .reg r → r ∈ destRegs k) :
    RegFrame k s (writeLoc d v t).state := by
  cases d with
  | reg r => exact h.setReg (.inl (hd r rfl))
  | atHL => exact h.writeByte _ v

theorem andThen {r : Access} {f : State → Access} (h : RegFrame k s r.state)
    (hf : ∀ t, RegFrame k s t → RegFrame k s (f t).state) : RegFrame k s (r.andThen f).state := by
  cases r with
  | done t => exact hf t h
  | fatal t => exact h

theorem map {r : Access} {f : State → State} (h : RegFrame k s r.state)
    (hf : ∀ t, RegFrame k s t → RegFrame k s (f t)) : RegFrame k s (r.map f).state := by
  cases r with
  | done t => exact hf t h
  | fatal t => exact h

theorem writeWord (h : RegFrame k s t) (a v : Word) : RegFrame k s (writeWord a v t).state :=
  (h.writeByte _ _).andThen fun _ ht => ht.writeByte _ _

theorem push16 (h : RegFrame k s t) (hk : writesSp k = true) (v : Word) : RegFrame k s (push16 v t).state :=
  ((h.writeByte _ _).andThen fun _ ht => ht.writeByte _ _).map fun _ ht => ht.setSp hk _

end

/-! ### Every kind keeps its frame -/

/-- A next state within the frame of `k` is answered. -/
def Answered (k : Kind) (s : State) (r : Result) : Prop := ∃ t, r = .next t ∧ RegFrame k s t

section
variable {k : Kind} {s t : State}

theorem next (h : RegFrame k s t) : Answered k s (.next t) := ⟨t, rfl, h⟩

theorem access {r : Access} (h : RegFrame k s r.state) : Answered k s r.result := ⟨_, r.result_eq, h⟩

theorem loadFrom (s : State) {dst : Reg8} (hd : dst ∈ destRegs k) (a len : Word) (n : Nat) :
    Answered k s (loadFrom dst a len n s) :=
  (((refl k s).noteRead a).setReg (.inl hd)).advance len n |>.next

theorem storeTo (k : Kind) (s : State) (a : Word) (v : Byte) (len : Word) (n : Nat) :
    Answered k s (storeTo a v len n s) :=
  ((refl k s).writeByte a v).map (fun _ ht => ht.advance len n) |>.access

theorem pushAndJump (s : State) (hk : writesSp k = true) (back target : Word) (n : Nat) :
    Answered k s (pushAndJump back target n s) :=
  ((refl k s).push16 hk back).map (fun _ ht => ht.jumpTo target n) |>.access

theorem popAndJump (s : State) (hk : writesSp k = true) (n : Nat) : Answered k s (popAndJump n s) :=
  ((refl k s).pop16 hk).jumpTo _ n |>.next

end

/-- Every kind but that of the byte 0xCB, which stands for another, changes nothing outside its frame. -/
theorem runKind (k : Kind) (hk : ∀ op2, k ≠ .cbPrefix op2) (s : State) : Answered k s (runKind k s) := by
  have h := refl k s
  cases k with
  | ldRegReg dst r => exact (h.setReg (.inl (.head _))).advance _ _ |>.next
  | ldRegImm dst n => exact (h.setReg (.inl (.head _))).advance _ _ |>.next
  | ldRegHL dst => exact loadFrom s (.head _) _ _ _
  | ldHLReg r => exact storeTo _ s _ _ _ _
  | ldHLImm n => exact storeTo _ s _ _ _ _
  | ldAPair p => exact loadFrom s (.head _) _ _ _
  | ldPairA p => exact storeTo _ s _ _ _ _
  | ldAHLPost k =>
    exact (((h.noteRead _).setReg (.inl (.head _))).setHL _
      (.tail _ (.head _)) (.tail _ (.tail _ (.head _)))).advance _ _ |>.next
  | ldHLPostA k =>
    exact (h.writeByte _ _).map (fun _ ht => (ht.setHL _ (.head _) (.tail _ (.head _))).advance _ _) |>.access
  | ldhImmA n => exact storeTo _ s _ _ _ _
  | ldhAImm n => exact loadFrom s (.head _) _ _ _
  | ldhCA => exact storeTo _ s _ _ _ _
  | ldhAC => exact loadFrom s (.head _) _ _ _
  | ldAbsA nn => exact storeTo _ s _ _ _ _
  | ldAAbs nn => exact loadFrom s (.head _) _ _ _
  | ldPairImm p nn => exact (h.setPair _ rfl (by rintro rfl; rfl)).advance _ _ |>.next
  | ldAbsSP nn => exact (h.writeWord _ _).map (fun _ ht => ht.advance _ _) |>.access
  | ldSPHL => exact (h.setSp rfl _).advance _ _ |>.next
  | ldHLSPe e =>
    exact ((h.setHL _ (.head _) (.tail _ (.head _))).setAllFlags _ ⟨rfl, rfl, rfl, rfl⟩).advance _ _ |>.next
  | push q => exact (h.push16 rfl _).map (fun _ ht => ht.advance _ _) |>.access
  | pop q => exact ((h.pop16 rfl).setStackPair _).advance _ _ |>.next
  | addSPe e =>
    exact ((h.setSp rfl (s.sp + sext16 e)).setAllFlags (spAddFlags s.sp e) ⟨rfl, rfl, rfl, rfl⟩).advance _ _ |>.next
  | alu op v =>
    have ha : Reg8.a ∈ destRegs (.alu op v) ∨
        (aluResult op s.regs.a (Machine.readSrc v s).1 s.flags).1 = s.regs.get .a := by
      cases op with
      | cp => exact .inr rfl
      | _ => exact .inl (.head _)
    exact (((h.readSrc v).setReg ha).setAllFlags _ ⟨rfl, rfl, rfl, rfl⟩).advance _ _ |>.next
  | inc8 d =>
    exact ((h.readLoc d).writeLoc d _ (by rintro r rfl; exact .head _)).map
      (fun _ ht => (ht.setAllFlags _ ⟨rfl, rfl, rfl, rfl⟩).advance _ _) |>.access
  | dec8 d =>
    exact ((h.readLoc d).writeLoc d _ (by rintro r rfl; exact .head _)).map
      (fun _ ht => (ht.setAllFlags _ ⟨rfl, rfl, rfl, rfl⟩).advance _ _) |>.access
  | daa =>
    exact ((h.setReg (.inl (.head _))).setFlags (daaResult s.regs.a s.flags).2
      (.inl rfl) (.inr rfl) (.inl rfl) (.inl rfl)).advance _ _ |>.next
  | cpl =>
    exact ((h.setReg (.inl (.head _))).setFlags (cplFlags s.flags)
      (.inr rfl) (.inl rfl) (.inl rfl) (.inr rfl)).advance _ _ |>.next
  | scf => exact (h.setFlags (scfFlags s.flags) (.inr rfl) (.inl rfl) (.inl rfl) (.inl rfl)).advance _ _ |>.next
  | ccf => exact (h.setFlags (ccfFlags s.flags) (.inr rfl) (.inl rfl) (.inl rfl) (.inl rfl)).advance _ _ |>.next
  | addHL p => exact ((h.setHL _ (.head _) (.tail _ (.head _))).setAllFlags _ ⟨rfl, rfl, rfl, rfl⟩).advance _ _ |>.next
  | incPair p => exact (h.setPair _ rfl (by rintro rfl; rfl)).advance _ _ |>.next
  | decPair p => exact (h.setPair _ rfl (by rintro rfl; rfl)).advance _ _ |>.next
  | accRotate r => exact ((h.setReg (.inl (.head _))).setAllFlags _ ⟨rfl, rfl, rfl, rfl⟩).advance _ _ |>.next
  | cbRotate r d =>
    exact ((h.readLoc d).writeLoc d _ (by rintro r rfl; exact .head _)).map
      (fun _ ht => (ht.setAllFlags _ ⟨rfl, rfl, rfl, rfl⟩).advance _ _) |>.access
  | bitTest n d =>
    exact ((h.readLoc d).setFlags (bitFlags (Machine.readLoc d s).1 n s.flags)
      (.inl rfl) (.inl rfl) (.inl rfl) (.inr rfl)).advance _ _ |>.next
  | bitReset n d =>
    exact ((h.readLoc d).writeLoc d _ (by rintro r rfl; exact .head _)).map (fun _ ht => ht.advance _ _) |>.access
  | bitSet n d =>
    exact ((h.readLoc d).writeLoc d _ (by rintro r rfl; exact .head _)).map (fun _ ht => ht.advance _ _) |>.access
  | jp nn => exact (h.jumpTo _ _).next
  | jpCond cc nn =>
    simp only [Machine.runKind, jumpAbsCond]
    split
    · exact (h.jumpTo _ _).next
    · exact (h.advance _ _).next
  | jpHL => exact (h.jumpTo _ _).next
  | jr e => exact (h.jumpTo _ _).next
  | jrCond cc e =>
    simp only [Machine.runKind, jumpRelCond]
    split
    · exact (h.jumpTo _ _).next
    · exact (h.advance _ _).next
  | call nn => exact pushAndJump s rfl _ _ _
  | callCond cc nn =>
    simp only [Machine.runKind, callAbsCond]
    split
    · exact pushAndJump s rfl _ _ _
    · exact (h.advance _ _).next
  | ret => exact popAndJump s rfl _
  | retCond cc =>
    simp only [Machine.runKind, returnCond]
    split
    · exact popAndJump s rfl _
    · exact (h.advance _ _).next
  | reti => exact next { h.pop16 rfl with ime := fun _ hn => absurd rfl hn }
  | rst y => exact pushAndJump s rfl _ _ _
  | nop => exact (h.advance _ _).next
  | halt => exact next { h with halted := fun hn => absurd rfl hn }
  | stop pad => exact next { h with stopped := fun hn => absurd rfl (hn pad) }
  | di => exact next { h with ime := fun hn => absurd rfl hn, imeScheduled := fun hn => absurd rfl hn }
  | ei => exact next { h with imeScheduled := fun _ hn => absurd rfl hn }
  | cbPrefix op2 => exact absurd rfl (hk op2)
  | illegal op => exact (h.raise _).next

end RegFrame

theorem regFrame_of_exec {i : Instr} {s t : State} (h : exec i s = .next t) : RegFrame (effKind i) s t := by
  obtain ⟨u, hu, hf⟩ := RegFrame.runKind (effKind i) (effKind_ne_cbPrefix i) s
  rw [exec_eq_runKind_effKind, hu] at h
  cases h
  exact hf

/-- Settles O42: the frame of the kind whose effect the instruction has, its conditions read back on the instruction. -/
theorem instructionRegisterFrame : Obligations.InstructionRegisterFrame := by
  unfold Obligations.InstructionRegisterFrame
  intro i s t h
  have hf := regFrame_of_exec h
  have hdi (hi : i ≠ .di) : effKind i ≠ .di := fun hk => hi (eq_di_of_kind (kind_of_effKind hk rfl))
  have hei (hi : i ≠ .ei) : effKind i ≠ .ei := fun hk => hi (eq_ei_of_kind (kind_of_effKind hk rfl))
  have hreti (hi : i ≠ .reti) : effKind i ≠ .reti := fun hk => hi (eq_reti_of_kind (kind_of_effKind hk rfl))
  have hhalt (hi : i ≠ .halt) : effKind i ≠ .halt := fun hk => hi (eq_halt_of_kind (kind_of_effKind hk rfl))
  have hstop (hi : ∀ pad, i ≠ .stop pad) (pad : Byte) : effKind i ≠ .stop pad :=
    fun hk => hi pad (eq_stop_of_kind (kind_of_effKind hk rfl))
  exact ⟨hf.regs, hf.sp, hf.flagZ, hf.flagN, hf.flagH, hf.flagC, fun h1 h2 => hf.ime (hdi h1) (hreti h2),
    fun h1 h2 => hf.imeScheduled (hdi h1) (hei h2), fun h1 => hf.halted (hhalt h1), fun h1 => hf.stopped (hstop h1),
    hf.fault, hf.mode, hf.counter, hf.ly, hf.cfg, hf.extIrq⟩

end Sys2Proof.Machine
end

section
/-! A step that fetches (R84, R90, R114, R340): the bytes of an instruction are as many as its opcode says, so that the
fetch reads exactly the bytes the decoder consumes. -/

namespace Sys2Proof.Machine

open Sys2Proof.Claims Sys2Proof.Laws

/-! ### The length of what is decoded -/

/-- The encoding of an instruction is as long as the format of its kind (R101). -/
theorem length_encode (i : Instr) : (encode i).length = kindLength i.kind := by
  unfold encode
  cases i.kind with
  | alu k v => cases v <;> rfl
  | _ => rfl

/-- A row of the primary table has one length, whatever immediates follow (R100). -/
theorem kindLength_primaryTable (b1 b2 : Byte) :
    primaryTable.map (fun e => kindLength (e b1 b2).kind) = primaryTable.map fun e => kindLength (e 0 0).kind := by
  simp only [primaryTable, List.map_append]
  rfl

theorem kindLength_primaryEntry (b0 b1 b2 : Byte) : kindLength (primaryEntry b0 b1 b2).kind = instrLength b0 := by
  have hopcode : ∀ op : Byte, kindLength (primaryEntry op 0 0).kind = instrLength op := by decide +kernel
  have hget (c1 c2 : Byte) : kindLength (primaryEntry b0 c1 c2).kind =
      (primaryTable.map fun e => kindLength (e c1 c2).kind).getD b0.toNat 1 :=
    (List.getD_map (l := primaryTable) (d := implied (.illegal b0)) (n := b0.toNat) fun e => kindLength (e c1 c2).kind).symm
  rw [← hopcode b0, hget, hget, kindLength_primaryTable]

theorem kindLength_secondaryEntry (op2 : Byte) : kindLength (secondaryEntry op2).kind = 2 := by
  revert op2
  decide +kernel

/-- What the decoder answers is as long as the opcode says (R100, R111); the byte 0xCB counts with its second byte (R110). -/
theorem length_encode_decodeInstr (b0 b1 b2 : Byte) : (encode (decodeInstr b0 b1 b2)).length = instrLength b0 := by
  rw [length_encode, ← kindLength_primaryEntry b0 b1 b2, decodeInstr]
  split
  case h_1 op2 h => rw [h, kindLength_secondaryEntry]; rfl
  case h_2 => rfl

theorem instrLength_cases (op : Byte) : instrLength op = 1 ∨ instrLength op = 2 ∨ instrLength op = 3 := by
  unfold instrLength
  split
  · simp
  · split <;> simp

/-! ### The fetch and the step -/

/-- The fetch reads the opcode and the bytes its length asks for, each after the access before it, and decodes them. -/
theorem fetch_of_decode {s : State} {i : Instr} {rest : List Byte}
    (h : decode [s.peek s.pc, (s.noteRead s.pc).peek (s.pc + 1),
      ((s.noteRead s.pc).noteRead (s.pc + 1)).peek (s.pc + 2)] = .ok (i, rest)) :
    fetch s = (i, if (encode i).length = 1 then s.noteRead s.pc
      else if (encode i).length = 2 then (s.noteRead s.pc).noteRead (s.pc + 1)
      else ((s.noteRead s.pc).noteRead (s.pc + 1)).noteRead (s.pc + 2)) := by
  unfold fetch
  obtain hl | hl | hl := instrLength_cases (s.peek s.pc) <;>
  · simp only [decode, hl, Except.ok.injEq, Prod.mk.injEq] at h
    obtain ⟨rfl, -⟩ := h
    rw [length_encode_decodeInstr]
    simp [readByte, hl]

/-- A fetching step runs the instruction it fetches, then the flip, the PPU and the merge (R340, R342, R351). -/
theorem step_of_fetching {s : State} (hf : Fetching s) :
    step s = afterInstr (s.extIrq.headD 0) s.imeScheduled (exec (fetch (atFetch s)).1 (fetch (atFetch s)).2) := by
  obtain ⟨⟨hfault, hstall⟩, hdispatch, hidle⟩ := hf
  have hstalled : s.dropExt.stalled = false := by simpa [State.stalled, hfault] using hstall
  have hime : (s.dropExt.ime && s.dropExt.pend != 0) = false := by simpa [State.pend, pending] using hdispatch
  have hhalted : (s.halted && s.pend == 0) = false := by simpa [State.pend, pending] using hidle
  have hwake : s.dropExt.wakeTest = atFetch s := by
    show ({ s with halted := s.halted && s.pend == 0, extIrq := s.extIrq.tail } : State) = atFetch s
    rw [hhalted, atFetch]
  rw [step, stepWith, hstalled, hime, hwake]
  rfl

/-- Settles O32: the fetch decodes the bytes it reads, and the rest of the step follows the instruction's answer. -/
theorem stepRunsTheDecodedInstruction : Obligations.StepRunsTheDecodedInstruction := by
  unfold Obligations.StepRunsTheDecodedInstruction
  intro s i rest hf s0 s1 s2 s3 bytes hdecode
  have hfetch := fetch_of_decode (s := s0) hdecode
  obtain ⟨t, hexec, -⟩ := Stable.exec (P := fun _ => True) ⟨fun _ _ => trivial, fun _ _ _ _ => trivial⟩ i
    (s := (fetch s0).2) trivial
  refine ⟨t, by rwa [hfetch] at hexec, ?_⟩
  have hi : (fetch s0).1 = i := by rw [hfetch]
  rw [step_of_fetching hf, hi, hexec, afterInstr, completed]
  split <;> rfl

end Sys2Proof.Machine
end

section
/-! Bytes of memory (R61, R68, R79 to R81): two addresses that are different bytes lead to different places, so that a
write shows at its own byte and its mirror and nowhere else. -/

namespace Sys2Proof.Machine

open Sys2Proof.Claims

/-! ### The addresses of a place -/

/-- The addresses that lead to a place (R61 to R74): one for each byte of the arrays and each register, a second one through
the echo range for the first 0x1E00 bytes of working RAM (R68). -/
def Target.ReachedFrom (n : Nat) : Target → Prop
  | .bootRom i | .cartRom i => n = i ∧ n < 0x8000
  | .vram i => n = 0x8000 + i
  | .eram i => n = 0xA000 + i
  | .wram i => n = 0xC000 + i ∨ (i < 0x1E00 ∧ n = 0xE000 + i)
  | .oam i => n = 0xFE00 + i
  | .unused => 0xFEA0 ≤ n ∧ n ≤ 0xFEFF
  | .ifReg => n = 0xFF0F
  | .lcdc => n = 0xFF40
  | .stat => n = 0xFF41
  | .ly => n = 0xFF44
  | .lyc => n = 0xFF45
  | .bootOff => n = 0xFF50
  | .ioPort => 0xFF00 ≤ n ∧ n ≤ 0xFF7F
  | .hram i => n = 0xFF80 + i
  | .ieReg => n = 0xFFFF

theorem reachedFrom_routeIo {n : Nat} (h1 : 0xFF00 ≤ n) (h2 : n < 0xFF80) : (routeIo n).ReachedFrom n := by
  unfold routeIo
  repeat' split
  all_goals first | assumption | exact ⟨h1, by omega⟩

theorem reachedFrom_target (s : State) (a : Word) : (s.target a).ReachedFrom a.toNat := by
  have h := a.isLt
  unfold State.target route
  simp only [Bool.and_eq_true, decide_eq_true_eq]
  repeat' refine iteInduction (motive := Target.ReachedFrom _) (fun _ => ?_) fun _ => ?_
  all_goals first
    | exact reachedFrom_routeIo (by omega) ‹_›
    | (simp only [Target.ReachedFrom, true_and]; omega)

theorem apart_symm {a b : Word} (h : Apart a b) : Apart b a := ⟨h.1.symm, h.2.2, h.2.1⟩

/-- Different bytes lie at different places, but for the ranges that hold no byte of their own (R70, R74). -/
theorem target_ne_of_apart {s : State} {a b : Word} (h : Apart a b) (hu : s.target a ≠ .unused)
    (hp : s.target a ≠ .ioPort) : s.target b ≠ s.target a := by
  intro heq
  have ha := reachedFrom_target s a
  have hb := reachedFrom_target s b
  rw [heq] at hb
  obtain ⟨hne, hmirror⟩ := h
  rw [ne_eq, ← BitVec.toNat_inj] at hne
  cases ht : s.target a with (rw [ht] at ha hb; simp only [Target.ReachedFrom] at ha hb)
  | unused => exact hu ht
  | ioPort => exact hp ht
  | _ => omega

theorem route_overlay {b : Word} (h : 0x100 ≤ b.toNat) (o o' : Bool) : route o b = route o' b := by
  have hn : ¬b.toNat < 0x100 := Nat.not_lt.2 h
  simp [route, hn]

/-- A write leads no address elsewhere, but for a store to BOOTOFF and the addresses of the boot ROM (R87). -/
theorem target_written {s : State} {a b : Word} (h : b.toNat < 0x100 → s.target a ≠ .bootOff) (v : Byte) :
    (s.written a v).target b = s.target b := by
  unfold State.target
  by_cases hb : b.toNat < 0x100
  · rw [written_bootRomEnabled, beq_eq_false_iff_ne.2 (h hb), Bool.false_and, Bool.not_false, Bool.and_true]
  · exact route_overlay (Nat.not_lt.1 hb) _ _

/-- A write is unseen at every other place; a store to LYC is seen in STAT too (R301). -/
theorem peek_written_of_target_ne {s : State} {a b : Word} (hne : s.target b ≠ s.target a)
    (hboot : b.toNat < 0x100 → s.target a ≠ .bootOff) (hstat : s.target b = .stat → s.target a ≠ .lyc) (v : Byte) :
    (s.written a v).peek b = s.peek b := by
  rw [State.peek, State.peek, target_written hboot]
  cases hb : s.target b <;>
    grind [State.written, Memory.read_write_other, State.disableBootRom, Ppu.writeVram, Ppu.writeOam, Ppu.writeLcdc,
      Ppu.writeStat, Ppu.writeLyc, Ppu.readStat]

/-- A write is unseen at every other byte of memory; the conditions are the exceptions the bus rules make. -/
theorem peek_written_of_apart {s : State} {a b : Word} (h : Apart a b) (hboot : b.toNat < 0x100 → a ≠ 0xFF50)
    (hstat : b = 0xFF41 → a ≠ 0xFF45) (hport : Port b → ¬Port a) (v : Byte) : (s.written a v).peek b = s.peek b := by
  have ha := reachedFrom_target s a
  have hb := reachedFrom_target s b
  by_cases hu : s.target a = .unused
  · rw [State.written, hu]
  have hne : s.target b ≠ s.target a := by
    by_cases hp : s.target a = .ioPort
    · rw [hp]
      exact fun hbp => hport (target_ioPort_iff.1 hbp) (target_ioPort_iff.1 hp)
    · exact target_ne_of_apart h hu hp
  refine peek_written_of_target_ne hne (fun hlt hoff => ?_) (fun hs hl => ?_) v
  · rw [hoff] at ha
    exact hboot hlt (BitVec.eq_of_toNat_eq ha)
  · rw [hl] at ha
    rw [hs] at hb
    exact hstat (BitVec.eq_of_toNat_eq hb) (BitVec.eq_of_toNat_eq ha)

/-! ### Reading back -/

/-- The places that keep what is written to them (R65 to R69, R72). -/
def Target.isRam : Target → Bool
  | .vram _ | .eram _ | .wram _ | .oam _ | .hram _ => true
  | _ => false

theorem isRam_target {a : Word} (h : (0x8000 ≤ a.toNat ∧ a.toNat ≤ 0xFE9F) ∨ (0xFF80 ≤ a.toNat ∧ a.toNat ≤ 0xFFFE))
    (s : State) : (s.target a).isRam = true := by
  have ha := reachedFrom_target s a
  cases ht : s.target a with (rw [ht] at ha; simp only [Target.ReachedFrom] at ha)
  | vram i | eram i | wram i | oam i | hram i => rfl
  | _ => omega

/-- Every address of a place in RAM reads back the byte written through any of them (R68, R81). -/
theorem peek_written_of_target_eq {s : State} {a b : Word} (hw : s.storageWf = true) (hr : (s.target a).isRam = true)
    (hb : s.target b = s.target a) (v : Byte) : (s.written a v).peek b = v := by
  obtain ⟨hwram, heram, hhram, hvram, hoam, -, -⟩ := (storageWf_iff s).1 hw
  rw [State.peek, target_written (fun _ ho => by simp [ho, Target.isRam] at hr), hb, State.written]
  cases ht : s.target a with rw [ht] at hr
  | vram i => exact Memory.read_write_same hvram i v
  | eram i => exact Memory.read_write_same heram i v
  | wram i => exact Memory.read_write_same hwram i v
  | oam i => exact Memory.read_write_same hoam i v
  | hram i => exact Memory.read_write_same hhram i v
  | _ => cases hr

/-- Settles O40: a byte and its mirror lie at one place, which reads back what is written; every other byte lies elsewhere. -/
theorem writtenByteReadsBack : Obligations.WrittenByteReadsBack := by
  unfold Obligations.WrittenByteReadsBack
  intro s u a v hw hrange hdone
  obtain ⟨-, rfl⟩ := writeByte_done hdone
  have hsame {b : Word} (hb : s.target b = s.target a) : (s.written a v).peek b = v :=
    peek_written_of_target_eq hw (isRam_target hrange s) hb v
  refine ⟨hsame rfl, fun h1 h2 => hsame ?_, fun h1 h2 => hsame ?_, fun b hb => ?_⟩
  · have hmirror : (a + 0x2000).toNat = a.toNat + 0x2000 := by bv_omega
    rw [target_wram h1 (by omega), target_echo (by omega) (by omega), hmirror]
    exact congrArg Target.wram (by omega)
  · have hmirror : (a - 0x2000).toNat = a.toNat - 0x2000 := by bv_omega
    rw [target_echo h1 h2, target_wram (by omega) (by omega), hmirror]
    exact congrArg Target.wram (by omega)
  · refine peek_written_of_apart hb ?_ ?_ (fun _ hp => ?_) v
    · rintro - rfl; simp at hrange
    · rintro - rfl; simp at hrange
    · obtain ⟨hlo, hhi, -⟩ := hp
      omega

end Sys2Proof.Machine
end

section
/-! What an instruction changes of memory (R79, R80, R315): it reaches its next state by changes away from the bus and by
writes to the addresses its operand form names. -/

namespace Sys2Proof.Machine

open Sys2Proof.Claims

theorem hl_readLoc (d : Loc8) (s : State) : (readLoc d s).2.hl = s.hl := by
  cases d with
  | reg r => rfl
  | atHL => exact congrArg Regs.hl (noteRead_regs _ _)

theorem storedAt_callCond {s : State} {cc : Cond} {nn : Word} (h : cc.holds s.flags = true) :
    storedAt s (.callCond cc nn) = [s.sp - 1, s.sp - 2] := if_pos h

/-- A state reached from `s` by changes away from the bus and by writes to addresses of `l`. -/
inductive StoresOnly (l : List Word) (s : State) : State → Prop
  | refl : StoresOnly l s s
  | quiet {t u : State} : StoresOnly l s t → SameBus t u → StoresOnly l s u
  | written {t : State} {a : Word} (v : Byte) : StoresOnly l s t → a ∈ l → StoresOnly l s (t.written a v)

namespace StoresOnly

section
variable {l : List Word} {s t : State} {a : Word}

theorem writeByte (h : StoresOnly l s t) (ha : a ∈ l) (v : Byte) : StoresOnly l s (writeByte a v t).state := by
  rw [writeByte_eq]
  split
  · exact h.written v ha
  · exact h.quiet (SameBus.raise _ _)

theorem writeLoc (h : StoresOnly l s t) (d : Loc8) (hd : d = .atHL → t.hl ∈ l) (v : Byte) :
    StoresOnly l s (writeLoc d v t).state := by
  cases d with
  | reg r => exact h.quiet (SameBus.setReg _ _ _)
  | atHL => exact h.writeByte (hd rfl) v

theorem map {r : Access} {f : State → State} (h : StoresOnly l s r.state) (hf : ∀ t, SameBus t (f t)) :
    StoresOnly l s (r.map f).state := by
  cases r with
  | done t => exact h.quiet (hf t)
  | fatal t => exact h

/-- Two writes, the second after the first unless that was fatal (R76, R164). -/
theorem writeTwo (h : StoresOnly l s t) {b : Word} (ha : a ∈ l) (hb : b ∈ l) (v w : Byte) :
    StoresOnly l s ((Machine.writeByte a v t).andThen (Machine.writeByte b w)).state := by
  have h1 := h.writeByte ha v
  cases hr : Machine.writeByte a v t with rw [hr] at h1
  | done u => exact h1.writeByte hb w
  | fatal u => exact h1

end

/-- A next state is answered that is reached by the stores of kind `k` alone. -/
def Answered (k : Kind) (s : State) (r : Result) : Prop := ∃ t, r = .next t ∧ StoresOnly (storedAt s k) s t

section
variable {k : Kind} {s t : State}

theorem access {r : Access} (h : StoresOnly (storedAt s k) s r.state) : Answered k s r.result := ⟨_, r.result_eq, h⟩

/-- An instruction that stores nothing. -/
theorem silent (h : SameBus s t) : Answered k s (.next t) := ⟨t, rfl, refl.quiet h⟩

theorem storeTo {a : Word} (ha : a ∈ storedAt s k) (v : Byte) (len : Word) (n : Nat) :
    Answered k s (storeTo a v len n s) :=
  access ((refl.writeByte ha v).map fun _ => SameBus.advance _ _ _)

theorem push16 (h1 : s.sp - 1 ∈ storedAt s k) (h2 : s.sp - 2 ∈ storedAt s k) (v : Word) :
    StoresOnly (storedAt s k) s (push16 v s).state :=
  (refl.writeTwo h1 h2 _ _).map fun _ => SameBus.setSp _ _

theorem pushAndJump (h1 : s.sp - 1 ∈ storedAt s k) (h2 : s.sp - 2 ∈ storedAt s k) (back target : Word) (n : Nat) :
    Answered k s (pushAndJump back target n s) :=
  access ((push16 h1 h2 back).map fun _ => SameBus.jumpTo _ _ _)

/-- A byte operation writes back what it has read: only the indirect-HL form stores (R11). -/
theorem writeBack {d : Loc8} (hd : d = .atHL → s.hl ∈ storedAt s k) (v : Byte) {f : State → State}
    (hf : ∀ t, SameBus t (f t)) : Answered k s (((Machine.writeLoc d v (readLoc d s).2).map f).result) :=
  access (((refl.quiet (SameBus.readLoc d s)).writeLoc d (hl_readLoc d s ▸ hd) v).map hf)

end

/-- Every kind but that of the byte 0xCB, which stands for another, changes memory by its own stores alone. -/
theorem runKind (k : Kind) (hk : ∀ op2, k ≠ .cbPrefix op2) (s : State) : Answered k s (runKind k s) := by
  cases k with
  | ldHLReg _ | ldHLImm _ | ldhImmA _ | ldhCA | ldAbsA _ => exact storeTo (.head _) _ _ _
  | ldPairA p => cases p <;> exact storeTo (.head _) _ _ _
  | ldHLPostA k =>
    exact access ((refl.writeByte (.head _) _).map fun _ => (SameBus.setHL _ _).trans (SameBus.advance _ _ _))
  | ldAbsSP nn => exact access ((refl.writeTwo (.head _) (.tail _ (.head _)) _ _).map fun _ => SameBus.advance _ _ _)
  | push q => exact access ((push16 (.head _) (.tail _ (.head _)) _).map fun _ => SameBus.advance _ _ _)
  | call _ | rst _ => exact pushAndJump (.head _) (.tail _ (.head _)) _ _ _
  | callCond cc nn =>
    simp only [Machine.runKind, callAbsCond]
    split
    case isTrue hc =>
      have hl := storedAt_callCond (nn := nn) hc
      exact pushAndJump (hl ▸ .head _) (hl ▸ .tail _ (.head _)) _ _ _
    case isFalse => exact silent (SameBus.advance _ _ _)
  | inc8 _ | dec8 _ | cbRotate _ _ =>
    exact writeBack (by rintro rfl; exact .head _) _ fun _ => (SameBus.setFlags _ _).trans (SameBus.advance _ _ _)
  | bitReset _ _ | bitSet _ _ => exact writeBack (by rintro rfl; exact .head _) _ fun _ => SameBus.advance _ _ _
  | ldRegHL _ | ldAPair _ | ldhAImm _ | ldhAC | ldAAbs _ =>
    exact silent ((SameBus.noteRead _ _).trans ((SameBus.setReg _ _ _).trans (SameBus.advance _ _ _)))
  | ldAHLPost _ =>
    exact silent ((SameBus.noteRead _ _).trans ((SameBus.setReg _ _ _).trans
      ((SameBus.setHL _ _).trans (SameBus.advance _ _ _))))
  | ldPairImm _ _ | incPair _ | decPair _ => exact silent ((SameBus.setPair _ _ _).trans (SameBus.advance _ _ _))
  | pop _ => exact silent ((SameBus.pop16 _).trans ((SameBus.setStackPair _ _ _).trans (SameBus.advance _ _ _)))
  | alu _ _ =>
    exact silent ((SameBus.readSrc _ _).trans ((SameBus.setReg _ _ _).trans
      ((SameBus.setFlags _ _).trans (SameBus.advance _ _ _))))
  | bitTest _ _ =>
    exact silent ((SameBus.readLoc _ _).trans ((SameBus.setFlags _ _).trans (SameBus.advance _ _ _)))
  | jpCond cc nn =>
    simp only [Machine.runKind, jumpAbsCond]
    split
    · exact silent (SameBus.jumpTo _ _ _)
    · exact silent (SameBus.advance _ _ _)
  | jrCond cc e =>
    simp only [Machine.runKind, jumpRelCond]
    split
    · exact silent (SameBus.jumpTo _ _ _)
    · exact silent (SameBus.advance _ _ _)
  | ret => exact silent ((SameBus.pop16 _).trans (SameBus.jumpTo _ _ _))
  | retCond cc =>
    simp only [Machine.runKind, returnCond]
    split
    · exact silent ((SameBus.pop16 _).trans (SameBus.jumpTo _ _ _))
    · exact silent (SameBus.advance _ _ _)
  | reti => exact silent ((SameBus.pop16 _).trans (by constructor <;> rfl))
  | cbPrefix op2 => exact absurd rfl (hk op2)
  | ldRegReg _ _ | ldRegImm _ _ | ldSPHL | ldHLSPe _ | addSPe _ | daa | cpl | scf | ccf | addHL _ | accRotate _
  | jp _ | jpHL | jr _ | nop | halt | stop _ | di | ei | illegal _ =>
    exact silent (by constructor <;> rfl)

/-- An instruction that answers has changed memory by the stores of the kind whose effect it has. -/
theorem of_exec {i : Instr} {s t : State} (h : exec i s = .next t) : StoresOnly (storedAt s (effKind i)) s t := by
  obtain ⟨u, hu, hstores⟩ := runKind (effKind i) (effKind_ne_cbPrefix i) s
  rw [exec_eq_runKind_effKind, hu] at h
  cases h
  exact hstores

end StoresOnly

/-! ### What a read sees of it -/

/-- Away from the external port a read sees nothing but what is behind the bus. -/
theorem SameBus.peek {s t : State} (h : SameBus s t) {b : Word} (hb : ¬Port b) : t.peek b = s.peek b := by
  have hio : s.target b ≠ .ioPort := fun ht => hb (target_ioPort_iff.1 ht)
  rw [State.peek, State.peek, State.target, h.bootRomEnabled, ← State.target, h.wram, h.eram, h.hram, h.ppu, h.ie,
    h.iflags, h.cfg]
  cases ht : s.target b with
  | ioPort => exact absurd ht hio
  | _ => rfl

/-- A byte apart from every byte stored reads as before. -/
theorem StoresOnly.peek {l : List Word} {s t : State} {b : Word} (h : StoresOnly l s t) (hap : ∀ a ∈ l, Apart b a)
    (hstat : b = 0xFF41 → 0xFF45 ∉ l) (hboot : b.toNat < 0x100 → 0xFF50 ∉ l) (hport : ¬Port b) :
    t.peek b = s.peek b := by
  induction h with
  | refl => rfl
  | quiet _ hs ih => exact (hs.peek hport).trans ih
  | written v _ ha ih =>
    exact (peek_written_of_apart (apart_symm (hap _ ha)) (fun hlt he => hboot hlt (he ▸ ha))
      (fun hb he => hstat hb (he ▸ ha)) (fun hb => absurd hb hport) v).trans ih

/-- The external port answers by its log alone (R86). -/
theorem peek_port {s : State} {b : Word} (hb : Port b) : s.peek b = Config.ioRead s.ioLog b := by
  rw [State.peek, target_ioPort_iff.2 hb]

/-- Settles O41: an instruction makes its own stores alone, and a read elsewhere sees none of them. -/
theorem instructionMemoryFrame : Obligations.InstructionMemoryFrame := by
  unfold Obligations.InstructionMemoryFrame
  intro i s t h a hap hstat hboot hlog
  by_cases hport : Port a
  · rw [peek_port hport, peek_port hport, hlog hport]
  · exact (StoresOnly.of_exec h).peek hap hstat hboot hport

end Sys2Proof.Machine
end

section
/-! The decoder and the encoder (R100 to R114): whatever is decoded has the bytes read as its encoding, and every well-formed
instruction stands in the tables at the place its encoding names. -/

namespace Sys2Proof.Machine

/-! ### The tables, row by row -/

/-- A list laid out in rows of one length, read by row and column. -/
theorem getD_flatten_of_length {α : Type} {n : Nat} {rows : List (List α)} (hn : 0 < n) (h : ∀ r ∈ rows, r.length = n)
    (d : α) (k : Nat) : rows.flatten.getD k d = (rows.getD (k / n) []).getD (k % n) d := by
  induction rows generalizing k with
  | nil => simp
  | cons r rows ih =>
    obtain ⟨hr, hrows⟩ := List.forall_mem_cons.1 h
    rw [List.flatten_cons]
    by_cases hk : k < n
    · rw [List.getD_append _ _ _ _ (by omega), Nat.div_eq_of_lt hk, Nat.mod_eq_of_lt hk, List.getD_cons_zero]
    · obtain ⟨j, rfl⟩ := Nat.exists_eq_add_of_le (not_lt.1 hk)
      rw [List.getD_append_right _ _ _ _ (by omega), hr, Nat.add_sub_cancel_left, ih hrows, Nat.add_div_left _ hn,
        Nat.add_mod_left, List.getD_cons_succ]

/-- The values of a function of the opcode, laid out as the tables are: the high digit is the row (R109). -/
def byRow {β : Type} (g : Byte → β) : List (List β) :=
  (List.range 16).map fun r => (List.range 16).map fun c => g (BitVec.ofNat 8 (16 * r + c))

/-- A property of a table's entries is checked row by row. -/
theorem entry_of_rows {α β : Type} {rows : List (List α)} {f : α → β} {g : Byte → β} (h : rows.map (List.map f) = byRow g)
    (d : α) (op : Byte) : f (rows.flatten.getD op.toNat d) = g op := by
  have hlen : ∀ r ∈ rows.map (List.map f), r.length = 16 := by simp [h, byRow]
  have hrow : op.toNat / 16 < 16 := by have := op.isLt; omega
  have hcol : op.toNat % 16 < 16 := Nat.mod_lt _ (by decide)
  calc f (rows.flatten.getD op.toNat d)
    _ = (rows.map (List.map f)).flatten.getD op.toNat (f d) := by rw [← List.map_flatten, List.getD_map]
    _ = ((byRow g).getD (op.toNat / 16) []).getD (op.toNat % 16) (f d) := by
        rw [getD_flatten_of_length (by decide) hlen, h]
    _ = g (BitVec.ofNat 8 (16 * (op.toNat / 16) + op.toNat % 16)) := by
        simp [byRow, List.getD_eq_getElem?_getD, hrow, hcol]
    _ = g op := by rw [Nat.div_add_mod, BitVec.ofNat_toNat, BitVec.setWidth_eq]

/-- The rows of the primary table (R109). -/
def primaryRows : List (List Entry) :=
  [primaryRow0, primaryRow1, primaryRow2, primaryRow3, primaryRow4, primaryRow5, primaryRow6, primaryRow7,
   primaryRow8, primaryRow9, primaryRowA, primaryRowB, primaryRowC, primaryRowD, primaryRowE, primaryRowF]

/-- The rows of the secondary table (R110). -/
def secondaryRows : List (List Instr) :=
  [secondaryRow0, secondaryRow1, secondaryRow2, secondaryRow3, secondaryRow4, secondaryRow5, secondaryRow6, secondaryRow7,
   secondaryRow8, secondaryRow9, secondaryRowA, secondaryRowB, secondaryRowC, secondaryRowD, secondaryRowE, secondaryRowF]

theorem primaryTable_eq_flatten : primaryTable = primaryRows.flatten := by
  simp only [primaryTable, primaryRows, List.flatten_cons, List.flatten_nil, List.append_nil, List.append_assoc]

theorem secondaryTable_eq_flatten : secondaryTable = secondaryRows.flatten := by
  simp only [secondaryTable, secondaryRows, List.flatten_cons, List.flatten_nil, List.append_nil, List.append_assoc]

theorem primaryEntry_of_rows {β : Type} {f : Entry → β} {g : Byte → β} (h : primaryRows.map (List.map f) = byRow g)
    (op : Byte) : f (primaryEntry op) = g op := by
  rw [primaryEntry, primaryTable_eq_flatten]
  exact entry_of_rows h _ op

theorem secondaryEntry_of_rows {β : Type} {f : Instr → β} {g : Byte → β} (h : secondaryRows.map (List.map f) = byRow g)
    (op2 : Byte) : f (secondaryEntry op2) = g op2 := by
  rw [secondaryEntry, secondaryTable_eq_flatten]
  exact entry_of_rows h _ op2

/-! ### What is decoded -/

/-- The bytes that an instruction of a given length has after its opcode (R101, R103). -/
def operandBytes (b1 b2 : Byte) : Nat → List Byte
  | 1 => []
  | 2 => [b1]
  | _ => imm16 (joinBytes b2 b1)

theorem encode_primaryEntry (op b1 b2 : Byte) : encode (primaryEntry op b1 b2) = [op, b1, b2].take (instrLength op) := by
  rw [primaryEntry_of_rows (f := fun e => encode (e b1 b2)) (g := fun op => op :: operandBytes b1 b2 (instrLength op)) rfl]
  obtain h | h | h := instrLength_cases op <;> simp [h, operandBytes, imm16]

theorem encode_secondaryEntry (op2 : Byte) : encode (secondaryEntry op2) = [0xCB, op2] :=
  secondaryEntry_of_rows (g := fun op2 => [0xCB, op2]) rfl op2

/-- Whatever is decoded has the bytes read as its encoding, as many as the opcode says (R100, R111). -/
theorem encode_decodeInstr (b0 b1 b2 : Byte) : encode (decodeInstr b0 b1 b2) = [b0, b1, b2].take (instrLength b0) := by
  unfold decodeInstr
  split
  case h_1 op2 h => rw [encode_secondaryEntry, ← encode_primaryEntry, h]; rfl
  case h_2 => exact encode_primaryEntry b0 b1 b2

/-- Every entry of the primary table is an instruction but that of the byte 0xCB (R110). -/
theorem wf_primaryEntry (op b1 b2 : Byte) : (primaryEntry op b1 b2).wf = (op != 0xCB) :=
  primaryEntry_of_rows (f := fun e => (e b1 b2).wf) (g := fun op => op != 0xCB) rfl op

theorem wf_secondaryEntry (op2 : Byte) : (secondaryEntry op2).wf = true :=
  secondaryEntry_of_rows (f := Instr.wf) (g := fun _ => true) rfl op2

theorem wf_decodeInstr (b0 b1 b2 : Byte) : (decodeInstr b0 b1 b2).wf = true := by
  unfold decodeInstr
  split
  case h_1 op2 _ => exact wf_secondaryEntry op2
  case h_2 hne =>
    have hop : b0 ≠ 0xCB := by
      rintro rfl
      exact hne b1 rfl
    rw [wf_primaryEntry, bne_iff_ne.2 hop]

/-- The decoder takes off as many bytes as the opcode says (R111). -/
theorem exists_decodeInstr_of_decode {bytes : List Byte} {i : Instr} {rest : List Byte} (h : decode bytes = .ok (i, rest)) :
    ∃ b0 b1 b2, i = decodeInstr b0 b1 b2 ∧ bytes = [b0, b1, b2].take (instrLength b0) ++ rest := by
  unfold decode at h
  split at h
  · cases h
  split at h
  case h_1 hl | h_2 hl | h_3 hl => cases h; exact ⟨_, _, _, rfl, by simp [hl]⟩
  case h_4 => cases h

/-- Settles O3: what is decoded is well-formed, and its encoding is the bytes taken off. -/
theorem encodeDecodeRoundTrip : Obligations.EncodeDecodeRoundTrip := by
  unfold Obligations.EncodeDecodeRoundTrip
  intro bytes i rest h
  obtain ⟨b0, b1, b2, rfl, rfl⟩ := exists_decodeInstr_of_decode h
  exact ⟨wf_decodeInstr b0 b1 b2, by rw [encode_decodeInstr]⟩

/-! ### What is encoded -/

theorem decodeInstr_unmapped {op : Byte} (h : op ∈ unmappedOpcodes) (b1 b2 : Byte) : decodeInstr op b1 b2 = .illegal op := by
  have hentry : primaryEntry op = implied (.illegal op) := by
    revert op
    simp only [unmappedOpcodes, List.forall_mem_cons]
    exact ⟨rfl, rfl, rfl, rfl, rfl, rfl, rfl, rfl, rfl, rfl, rfl, nofun⟩
  rw [decodeInstr, hentry]
  rfl

/-- The decoder with its tables read by row and column: where the encoding is closed, a lookup is evaluated without passing
the rows before. -/
def decodeByRow (b0 b1 b2 : Byte) : Instr :=
  match (primaryRows.getD (b0.toNat / 16) []).getD (b0.toNat % 16) (implied (.illegal b0)) b1 b2 with
  | .cbPrefix op2 => (secondaryRows.getD (op2.toNat / 16) []).getD (op2.toNat % 16) (.cbPrefix op2)
  | i => i

theorem decodeInstr_eq_decodeByRow (b0 b1 b2 : Byte) : decodeInstr b0 b1 b2 = decodeByRow b0 b1 b2 := by
  have hprimary : ∀ r ∈ primaryRows, r.length = 16 := by decide
  have hsecondary : ∀ r ∈ secondaryRows, r.length = 16 := by decide
  simp only [decodeInstr, primaryEntry, secondaryEntry, primaryTable_eq_flatten, secondaryTable_eq_flatten,
    getD_flatten_of_length (by decide) hprimary, getD_flatten_of_length (by decide) hsecondary]
  rfl

/-- Every well-formed instruction stands in the tables where its encoding says (R108 to R110). -/
theorem decodeInstr_encode {i : Instr} (h : i.wf = true) :
    decodeInstr ((encode i).getD 0 0) ((encode i).getD 1 0) ((encode i).getD 2 0) = i := by
  cases i with
  | cbPrefix op2 => cases h
  | illegal op => exact decodeInstr_unmapped (List.contains_iff_mem.1 h) 0 0
  | ld_bc_nn nn | ld_de_nn nn | ld_hl_nn nn | ld_sp_nn nn | ld_atNN_sp nn | ld_atNN_a nn | ld_a_atNN nn
  | jp_nn nn | jp_nz_nn nn | jp_z_nn nn | jp_nc_nn nn | jp_c_nn nn
  | call_nn nn | call_nz_nn nn | call_z_nn nn | call_nc_nn nn | call_c_nn nn => exact congrArg _ (joinBytes_hi_lo nn)
  | ld_b_n n | ld_c_n n | ld_d_n n | ld_e_n n | ld_h_n n | ld_l_n n | ld_atHL_n n | ld_a_n n | ldh_atN_a n | ldh_a_atN n
  | add_a_n n | adc_a_n n | sub_n n | sbc_a_n n | and_n n | xor_n n | or_n n | cp_n n | add_sp_e n | ld_hl_spE n
  | jr_e n | jr_nz_e n | jr_z_e n | jr_nc_e n | jr_c_e n | stop n => rfl
  | _ => exact decodeInstr_eq_decodeByRow _ _ _

/-- As many bytes as the opcode says are decoded, whatever follows them (R111). -/
theorem decode_append {l : List Byte} (h : l.length = instrLength (l.getD 0 0)) (rest : List Byte) :
    decode (l ++ rest) = .ok (decodeInstr (l.getD 0 0) (l.getD 1 0) (l.getD 2 0), rest) := by
  match l with
  | [] => cases h
  | [b0] | [b0, b1] | [b0, b1, b2] =>
    have hl : instrLength b0 = _ := h.symm
    simp [decode, hl]
  | b0 :: b1 :: b2 :: b3 :: l => obtain hl | hl | hl := instrLength_cases b0 <;> simp [hl] at h

/-- Settles O2: an instruction's encoding is as long as its opcode says, and names the place where the tables list it. -/
theorem decodeEncodeRoundTrip : Obligations.DecodeEncodeRoundTrip := by
  unfold Obligations.DecodeEncodeRoundTrip
  intro i h rest
  have hi := decodeInstr_encode h
  have hl := length_encode_decodeInstr ((encode i).getD 0 0) ((encode i).getD 1 0) ((encode i).getD 2 0)
  rw [hi] at hl
  rw [decode_append hl, hi]

end Sys2Proof.Machine
end

section
/-! What the opcode alone tells (R100, R110 to R112, R250, R271, R275, R276): how far pc advances, which opcodes are unmapped
and what a step does that fetches one, and where the byte 0xCB leads. -/

namespace Sys2Proof.Machine

open Sys2Proof.Claims Sys2Proof.Laws

/-! ### pc after an instruction that takes no target -/

/-- What an access leaves of pc: one that went through has not moved it, one that did not has latched a fault. -/
def Access.PcKept (pc : Word) : Access → Prop
  | .done t => t.pc = pc
  | .fatal t => t.fault.isSome = true

section
variable {pc : Word} {t : State}

theorem writeByte_pcKept (h : t.pc = pc) (a : Word) (v : Byte) : (writeByte a v t).PcKept pc := by
  rw [writeByte_eq]
  split
  · exact (written_pc t a v).trans h
  · rfl

theorem writeLoc_pcKept (h : t.pc = pc) (d : Loc8) (v : Byte) : (writeLoc d v t).PcKept pc := by
  cases d with
  | reg r => exact h
  | atHL => exact writeByte_pcKept h _ v

theorem Access.PcKept.andThen {r : Access} {f : State → Access} (h : r.PcKept pc)
    (hf : ∀ t, t.pc = pc → (f t).PcKept pc) : (r.andThen f).PcKept pc := by
  cases r with
  | done t => exact hf t h
  | fatal t => exact h

theorem Access.PcKept.map {r : Access} {f : State → State} (h : r.PcKept pc) (hf : ∀ t, (f t).pc = t.pc) :
    (r.map f).PcKept pc := by
  cases r with
  | done t => exact (hf t).trans h
  | fatal t => exact h

theorem writeWord_pcKept (h : t.pc = pc) (a v : Word) : (writeWord a v t).PcKept pc :=
  (writeByte_pcKept h _ _).andThen fun _ hu => writeByte_pcKept hu _ _

theorem push16_pcKept (h : t.pc = pc) (v : Word) : (push16 v t).PcKept pc :=
  ((writeByte_pcKept h _ _).andThen fun _ hu => writeByte_pcKept hu _ _).map fun _ => rfl

end

@[simp] theorem readLoc_pc (d : Loc8) (s : State) : (readLoc d s).2.pc = s.pc := by
  cases d with
  | reg r => rfl
  | atHL => exact noteRead_pc s _

@[simp] theorem readSrc_pc (v : Src8) (s : State) : (readSrc v s).2.pc = s.pc := by
  cases v with
  | reg _ | imm _ => rfl
  | atHL => exact noteRead_pc s _

@[simp] theorem pop16_pc (s : State) : (pop16 s).2.pc = s.pc := by
  simp [pop16, readWord, readByte]

theorem kindLength_alu (op : AluOp) (v : Src8) : v.length = BitVec.ofNat 16 (kindLength (.alu op v)) := by
  cases v <;> rfl

/-- Unless it latches a fault or takes a target, the answer has pc advanced by the length of the kind. -/
def Advances (k : Kind) (s : State) (r : Result) : Prop :=
  ∀ t, r = .next t → t.fault = none → takesTarget s.flags k = false → t.pc = s.pc + BitVec.ofNat 16 (kindLength k)

namespace Advances

section
variable {k : Kind} {s t : State}

theorem next (h : t.pc = s.pc + BitVec.ofNat 16 (kindLength k)) : Advances k s (.next t) := by
  rintro _ ⟨⟩ - -
  exact h

theorem access {r : Access} {f : State → State} (h : r.PcKept s.pc)
    (hf : ∀ t, (f t).pc = t.pc + BitVec.ofNat 16 (kindLength k)) : Advances k s (r.map f).result := by
  cases r with
  | done t => exact next ((hf t).trans (congrArg (· + _) h))
  | fatal t =>
    rintro _ ⟨⟩ hnone -
    rw [Access.PcKept, hnone] at h
    cases h

theorem takes {r : Result} (h : takesTarget s.flags k = true) : Advances k s r := fun _ _ _ hn =>
  absurd (h.symm.trans hn) (by decide)

/-- An instruction with a condition takes its target if that holds. -/
theorem cond {cc : Cond} {r : Result} (hk : takesTarget s.flags k = cc.holds s.flags)
    (h : t.pc = s.pc + BitVec.ofNat 16 (kindLength k)) : Advances k s (if cc.holds s.flags then r else .next t) := by
  split
  case isTrue hc => exact takes (hk.trans hc)
  case isFalse => exact next h

end

/-- Every kind but that of the byte 0xCB, which stands for another, advances pc by its length. -/
theorem runKind (k : Kind) (hk : ∀ op2, k ≠ .cbPrefix op2) (s : State) : Advances k s (runKind k s) := by
  cases k with
  | jp _ | jpHL | jr _ | call _ | ret | reti | rst _ => exact takes rfl
  | jpCond _ _ | jrCond _ _ | callCond _ _ | retCond _ => exact cond rfl rfl
  | ldHLReg _ | ldHLImm _ | ldPairA _ | ldHLPostA _ | ldhImmA _ | ldhCA | ldAbsA _ =>
    exact access (writeByte_pcKept rfl _ _) fun _ => rfl
  | ldAbsSP _ => exact access (writeWord_pcKept rfl _ _) fun _ => rfl
  | push _ => exact access (push16_pcKept rfl _) fun _ => rfl
  | inc8 d | dec8 d | cbRotate _ d | bitReset _ d | bitSet _ d =>
    exact access (writeLoc_pcKept (readLoc_pc d s) d _) fun _ => rfl
  | ldRegHL _ | ldAPair _ | ldAHLPost _ | ldhAImm _ | ldhAC | ldAAbs _ => exact next (congrArg (· + _) (noteRead_pc s _))
  | alu op v => exact next ((congrArg (· + _) (readSrc_pc v s)).trans (congrArg _ (kindLength_alu op v)))
  | bitTest _ d => exact next (congrArg (· + _) (readLoc_pc d s))
  | ldPairImm p _ | incPair p | decPair p => exact next (congrArg (· + _) (setPair_pc s p _))
  | pop q => exact next (congrArg (· + _) ((setStackPair_pc _ q _).trans (pop16_pc s)))
  | ldRegReg _ _ | ldRegImm _ _ | ldSPHL | ldHLSPe _ | addSPe _ | daa | cpl | scf | ccf | addHL _ | accRotate _
  | nop | halt | stop _ | di | ei => exact next rfl
  | cbPrefix op2 => exact absurd rfl (hk op2)
  | illegal op =>
    rintro _ ⟨⟩ hnone -
    cases hnone

end Advances

/-- An instruction is as long as the one whose effect it has: 0xCB counts with its second byte (R110). -/
theorem length_encode_effKind (i : Instr) : (encode i).length = kindLength (effKind i) := by
  rw [length_encode, effKind]
  split
  case h_1 op2 hk => rw [hk, ← length_encode, length_encode_decodeInstr]; rfl
  case h_2 => rfl

/-- Settles O4: the opcode gives the length, the fetch decodes the byte at pc, and pc advances by the length of the kind. -/
theorem lengthIsFixedByTheOpcode : Obligations.LengthIsFixedByTheOpcode := by
  unfold Obligations.LengthIsFixedByTheOpcode
  refine ⟨fun b0 b1 b2 c1 c2 => ?_, fun s => ?_, fun i s t hexec hfault htarget => ?_⟩
  · simp only [length_encode_decodeInstr]
    have hl := instrLength_cases b0
    refine ⟨?_, by omega, by omega, trivial, ?_⟩
    · obtain hl | hl | hl := hl <;> simp [decode, hl]
    · rintro rfl
      rfl
  · simp only [fetch, readByte]
    split <;> exact ⟨_, _, rfl⟩
  · rw [length_encode_effKind]
    rw [exec_eq_runKind_effKind] at hexec
    exact Advances.runKind (effKind i) (effKind_ne_cbPrefix i) s t hexec hfault htarget

/-! ### The unmapped opcodes -/

/-- An illegal instruction is decoded from its own byte alone, one of the eleven (R112). -/
theorem decodeInstr_eq_illegal {op b1 b2 op' : Byte} (h : decodeInstr op b1 b2 = .illegal op') :
    op' = op ∧ op ∈ unmappedOpcodes := by
  have hwf := wf_decodeInstr op b1 b2
  have hbytes := encode_decodeInstr op b1 b2
  rw [h] at hwf hbytes
  have hop : op' = op := by
    obtain hl | hl | hl := instrLength_cases op <;> rw [hl] at hbytes <;> cases hbytes
    rfl
  exact ⟨hop, hop ▸ List.contains_iff_mem.1 hwf⟩

/-- An instruction of one byte is fetched by one read (R114). -/
theorem fetch_of_instrLength_one {s : State} (h : instrLength (s.peek s.pc) = 1) :
    fetch s = (decodeInstr (s.peek s.pc) 0 0, s.noteRead s.pc) := by
  simp only [fetch, readByte, h]

theorem instrLength_unmapped {op : Byte} (h : op ∈ unmappedOpcodes) : instrLength op = 1 := by
  rw [← length_encode_decodeInstr op 0 0, decodeInstr_unmapped h]
  rfl

/-- The meaning of an unmapped opcode is the latch and nothing more (R276). -/
theorem exec_illegal (op : Byte) (s : State) : exec (.illegal op) s = .next (latched (.illegalOpcode s.pc op) s) := rfl

/-- A step that fetches an unmapped opcode ends with the latch set (R276, R347). -/
theorem step_unmapped {s : State} (hf : Fetching s) (h : s.peek s.pc ∈ unmappedOpcodes) :
    step s = .next (latched (.illegalOpcode s.pc (s.peek s.pc)) ((atFetch s).noteRead s.pc)) := by
  have hfetch : fetch (atFetch s) = (.illegal (s.peek s.pc), (atFetch s).noteRead s.pc) := by
    rw [← decodeInstr_unmapped h 0 0]
    exact fetch_of_instrLength_one (s := atFetch s) (instrLength_unmapped h)
  have hpc : ((atFetch s).noteRead s.pc).pc = s.pc := noteRead_pc (atFetch s) s.pc
  rw [step_of_fetching hf, hfetch, exec_illegal, hpc]
  rfl

/-- Settles O5: the eleven bytes are those with an illegal entry, whose meaning is the latch and nothing more. -/
theorem unmappedOpcodesAreFatal : Obligations.UnmappedOpcodesAreFatal := by
  unfold Obligations.UnmappedOpcodesAreFatal
  refine ⟨fun op b1 b2 => ⟨?_, fun h => ⟨op, decodeInstr_unmapped h b1 b2⟩⟩,
    fun op b1 b2 op' h => (decodeInstr_eq_illegal h).1, exec_illegal, ?_⟩
  · rintro ⟨op', h⟩
    exact (decodeInstr_eq_illegal h).2
  · rintro s b1 b2 hf ⟨op', h⟩
    exact step_unmapped hf (decodeInstr_eq_illegal h).2

/-! ### The byte 0xCB -/

theorem decodeInstr_cb (op2 b2 : Byte) : decodeInstr 0xCB op2 b2 = secondaryEntry op2 := by
  have hentry : primaryEntry 0xCB = withN8 .cbPrefix := rfl
  rw [decodeInstr, hentry]
  rfl

/-- The secondary instruction of a byte is what the byte 0xCB means with it (R275). -/
theorem exec_secondaryEntry (op2 : Byte) (s : State) : exec (secondaryEntry op2) s = exec (.cbPrefix op2) s := by
  have hkind : (secondaryEntry op2).kind = cbKind op2 := by rw [← decodeInstr_cb op2 0, kind_decodeInstr_cb]
  rw [exec_eq_runKind, hkind, ← cbExecute_eq_runKind]
  rfl

/-- Every instruction answers a next state, fatal errors included (R347). -/
theorem exists_exec_eq_next (i : Instr) (s : State) : ∃ t, exec i s = .next t := by
  rw [exec_eq_runKind_effKind]
  obtain ⟨t, ht, -⟩ := RegFrame.runKind (effKind i) (effKind_ne_cbPrefix i) s
  exact ⟨t, ht⟩

/-- Settles O31: the entry of the secondary table is what is decoded, and its meaning is that of the byte 0xCB. -/
theorem prefixByteSelectsTheSecondaryTable : Obligations.PrefixByteSelectsTheSecondaryTable := by
  unfold Obligations.PrefixByteSelectsTheSecondaryTable
  intro op2 b2
  have hdecode : decode [0xCB, op2] = .ok (secondaryEntry op2, []) := by
    rw [← decodeInstr_cb op2 0]
    exact decode_append (l := [0xCB, op2]) rfl []
  refine ⟨secondaryEntry op2, hdecode, decodeInstr_cb op2 b2, encode_secondaryEntry op2, wf_secondaryEntry op2,
    fun op h => ?_, fun s => ?_⟩
  · have hbytes := encode_secondaryEntry op2
    rw [h] at hbytes
    cases hbytes
  · obtain ⟨t, ht⟩ := exists_exec_eq_next (secondaryEntry op2) s
    exact ⟨t, ht, exec_secondaryEntry op2 s ▸ ht⟩

/-! ### Sample words -/

theorem decode_of_eq_encode {bytes : List Byte} {i : Instr} {rest : List Byte} (h : bytes = encode i ++ rest)
    (hwf : i.wf = true) : decode bytes = .ok (i, rest) :=
  h ▸ decodeEncodeRoundTrip i hwf rest

/-- Settles O1: each word is the encoding of its instruction and the bytes that follow, which the round trip decodes. -/
theorem sampleWordsDecode : Obligations.SampleWordsDecode := by
  unfold Obligations.SampleWordsDecode
  and_intros <;> exact decode_of_eq_encode rfl rfl

end Sys2Proof.Machine
end

section
/-! The 8-bit loads (R130 to R148): a load is a read and a register write, a store is one bus write that either goes through
or ends the instruction with the latch set. -/

namespace Sys2Proof.Machine

open Sys2Proof.Claims

/-! ### A bus write, by the address (R70, R85) -/

section
variable {s : State} {a : Word}

theorem writeByte_of_writable (h : Writable s a) (v : Byte) : writeByte a v s = .done (s.written a v) := by
  rw [writeByte_eq, if_pos ((accepts_iff s a).2 h)]

theorem writeByte_of_unused (h : Unused a) (v : Byte) : writeByte a v s = .fatal (latched (.unusedWrite a) s) := by
  rw [writeByte, target_unused h]
  rfl

theorem writeByte_of_rom_fault (h : Rom a) (hp : s.cfg.romWrite = .fault) (v : Byte) :
    writeByte a v s = .fatal (latched (.romWrite a) s) := by
  obtain ⟨i, hi⟩ | ⟨i, hi⟩ := (route_rom_iff s.bootRomEnabled a).2 h <;>
  · simp only [writeByte, State.target, hi, hp]
    rfl

/-- The high-memory addresses of R143 to R146 lie above the unused range. -/
theorem writable_highAddr (s : State) (n : Byte) : Writable s (0xFF00 + n.zeroExtend 16) := by
  unfold Writable Unused Rom
  bv_omega

end

/-! ### Stores -/

section
variable {i : Instr} {s : State} {a : Word} {v : Byte}

/-- A meaning that writes one byte and then makes an update stores that byte. -/
theorem storesByte_of_map {f fin : State → State} (hexec : exec i s = ((writeByte a v s).map f).result)
    (hfin : f (s.written a v) = fin (s.written a v)) : StoresByte i s s a v fin := by
  refine ⟨fun h => ⟨s.written a v, writeByte_of_writable h v, ?_⟩, fun h => ?_, fun h hp => ?_⟩
  · rw [hexec, writeByte_of_writable h, ← hfin]
    rfl
  · rw [hexec, writeByte_of_unused h]
    rfl
  · rw [hexec, writeByte_of_rom_fault h hp]
    rfl

theorem storesByte_of_storeTo {len : Word} {n : Nat} (hexec : exec i s = storeTo a v len n s) :
    StoresByte i s s a v fun u => { u with pc := s.pc + len, cycles := n } :=
  storesByte_of_map hexec (by simp [State.advance])

/-- HL is stepped from its value before the write, which leaves the registers alone (R141, R142). -/
theorem storesByte_of_storeHLPostA {k : PostStep} (hexec : exec i s = storeHLPostA k s) :
    StoresByte i s s s.regs.hl s.regs.a fun u =>
      { u with regs := s.regs.setHL (k.apply s.regs.hl), pc := s.pc + 1, cycles := s.count (.ldHLPostA k) true } :=
  storesByte_of_map hexec (by simp [State.advance, State.setHL, State.hl])

/-- Where the address can be written, the write goes through. -/
theorem exec_of_storeTo {len : Word} {n : Nat} (hexec : exec i s = storeTo a v len n s) (ha : Writable s a) :
    ∃ u, writeByte a v s = .done u ∧ exec i s = .next { u with pc := s.pc + len, cycles := n } :=
  (storesByte_of_storeTo hexec).1 ha

end

/-- Settles O8: every form is one bus write and an update after it, and the high-memory addresses can always be written. -/
theorem storesOfOneByte : Obligations.StoresOfOneByte := by
  unfold Obligations.StoresOfOneByte
  refine ⟨fun i z hi => ⟨by rw [encode, hi]; rfl, fun s => storesByte_of_storeTo (by rw [exec_eq_runKind, hi]; rfl)⟩,
    ?imm, ?bc, ?de, ?inc, ?dec, ?high, ?highC, ?abs, fun _ => rfl, rfl, rfl, rfl, rfl, fun _ => rfl, rfl, fun _ => rfl,
    fun _ => rfl, fun _ => rfl, fun _ => rfl, fun _ => rfl, fun _ => rfl, rfl, fun _ => rfl⟩
  case imm => exact fun n s => storesByte_of_storeTo rfl
  case bc => exact fun s => storesByte_of_storeTo rfl
  case de => exact fun s => storesByte_of_storeTo rfl
  case inc => exact fun s => storesByte_of_storeHLPostA (k := .inc) rfl
  case dec => exact fun s => storesByte_of_storeHLPostA (k := .dec) rfl
  case high => exact fun n s => exec_of_storeTo rfl (writable_highAddr s n)
  case highC => exact fun s => exec_of_storeTo rfl (writable_highAddr s s.regs.c)
  case abs => exact fun nn s => storesByte_of_storeTo rfl

/-! ### Loads -/

/-- Settles O6: the meaning of the kind, whichever of its instructions is taken. -/
theorem registerLoads : Obligations.RegisterLoads := by
  unfold Obligations.RegisterLoads
  exact ⟨fun i y z hi => ⟨by rw [encode, hi]; rfl, fun s => by rw [exec_eq_runKind, hi]; rfl⟩,
    fun i y n hi => ⟨by rw [encode, hi]; rfl, fun s => by rw [exec_eq_runKind, hi]; rfl⟩,
    fun _ _ => rfl, fun _ _ => rfl⟩

/-- A load changes its register, pc and the report; of the read only the external port sees anything (R80, R86). -/
theorem loadFrom_eq (dst : Reg8) (a len : Word) (n : Nat) (s : State) :
    loadFrom dst a len n s = .next { s.noteRead a with
      regs := s.regs.set dst (s.peek a), pc := s.pc + len, cycles := n } := by
  simp [loadFrom, readByte, State.setReg, State.advance]

/-- HL is stepped from its value before the read, after A is written (R139, R140). -/
theorem loadAHLPost_eq (k : PostStep) (s : State) :
    loadAHLPost k s = .next { s.noteRead s.regs.hl with
      regs := ({ s.regs with a := s.peek s.regs.hl } : Regs).setHL (k.apply s.regs.hl)
      pc := s.pc + 1, cycles := s.count (.ldAHLPost k) true } := by
  simp [loadAHLPost, readByte, State.setReg, State.setHL, State.advance, State.hl, Regs.set]

/-- Settles O7: every form is one read and a register write; the post-stepping forms write HL besides. -/
theorem loadsFromMemory : Obligations.LoadsFromMemory := by
  unfold Obligations.LoadsFromMemory
  refine ⟨fun i y hi => ⟨by rw [encode, hi]; rfl, fun s => ?atHL⟩, ?bc, ?de, ?inc, ?dec, ?high, ?highC, ?abs,
    rfl, rfl, rfl, rfl, fun _ => rfl, rfl, fun _ => rfl,
    fun _ => rfl, fun _ => rfl, fun _ => rfl, fun _ => rfl, rfl, fun _ => rfl⟩
  case atHL =>
    rw [exec_eq_runKind, hi]
    exact loadFrom_eq y s.regs.hl 1 _ s
  case bc => exact fun s => loadFrom_eq .a s.regs.bc 1 _ s
  case de => exact fun s => loadFrom_eq .a s.regs.de 1 _ s
  case inc => exact loadAHLPost_eq .inc
  case dec => exact loadAHLPost_eq .dec
  case high => exact fun n s => loadFrom_eq .a (highAddr n) 2 _ s
  case highC => exact fun s => loadFrom_eq .a (highAddr s.regs.c) 1 _ s
  case abs => exact fun nn s => loadFrom_eq .a nn 3 _ s

end Sys2Proof.Machine
end

section
/-! The 16-bit loads, the pushes and the additions to SP (R160 to R168): a word is stored as two bus writes, the second made
only if the first went through, and what follows them is done only if both did. -/

namespace Sys2Proof.Machine

open Sys2Proof.Claims

/-! ### Two bus writes, one after the other (R76, R85, R164) -/

@[simp] theorem writable_written (s : State) (a b : Word) (v : Byte) : Writable (s.written a v) b ↔ Writable s b := by
  simp [Writable]

theorem Access.map_map (r : Access) (f g : State → State) : (r.map f).map g = r.map (g ∘ f) := by
  cases r <;> rfl

section
variable {answer : Result} {s : State} {a1 a2 : Word} {v1 v2 : Byte} {f fin : State → State}

/-- An answer that writes two bytes and then makes an update stores those bytes. -/
theorem storesTwo_of_map (hanswer : answer = (((writeByte a1 v1 s).andThen (writeByte a2 v2)).map f).result)
    (hfin : f ((s.written a1 v1).written a2 v2) = fin ((s.written a1 v1).written a2 v2)) :
    StoresTwo answer s a1 v1 a2 v2 fin := by
  have second (h1 : Writable s a1) : answer = ((writeByte a2 v2 (s.written a1 v1)).map f).result := by
    rw [hanswer, writeByte_of_writable h1]
    rfl
  refine ⟨fun h1 h2 => ?both, fun h1 => ?unused1, fun h1 hp => ?rom1, fun h1 h2 => ?unused2, fun h1 h2 hp => ?rom2⟩
  case both =>
    have hw := writeByte_of_writable ((writable_written s a1 a2 v1).2 h2) v2
    refine ⟨_, _, writeByte_of_writable h1 v1, hw, ?_⟩
    rw [second h1, hw, ← hfin]
    rfl
  case unused1 =>
    rw [hanswer, writeByte_of_unused h1]
    rfl
  case rom1 =>
    rw [hanswer, writeByte_of_rom_fault h1 hp]
    rfl
  case unused2 =>
    refine ⟨_, writeByte_of_writable h1 v1, ?_⟩
    rw [second h1, writeByte_of_unused h2]
    rfl
  case rom2 =>
    have hp' : (s.written a1 v1).cfg.romWrite = .fault := by rw [written_cfg, hp]
    refine ⟨_, writeByte_of_writable h1 v1, ?_⟩
    rw [second h1, writeByte_of_rom_fault h2 hp']
    rfl

/-- A push stores the high byte at sp-1 and then the low byte at sp-2; sp drops after both (R164). -/
theorem storesTwo_of_push16 {v : Word} (hanswer : answer = ((push16 v s).map f).result)
    (hfin : f (s.pushed v) = fin ((s.written (s.sp - 1) (hiByte v)).written (s.sp - 2) (loByte v))) :
    StoresTwo answer s (s.sp - 1) (hiByte v) (s.sp - 2) (loByte v) fin := by
  refine storesTwo_of_map (f := f ∘ fun t => { t with sp := t.sp - 2 }) ?_ ?_
  · rw [hanswer, push16, Access.map_map]
  · rw [← hfin, Function.comp_apply, written_sp, written_sp]
    rfl

end

/-! ### The stack pointer and the pairs on the bus -/

/-- Settles O10: the word write is two byte writes, low byte first, which leave sp and pc for the update after them. -/
theorem storeStackPointer : Obligations.StoreStackPointer := by
  unfold Obligations.StoreStackPointer
  exact ⟨fun nn s => storesTwo_of_map rfl (by simp [State.advance]), fun _ => rfl, fun _ => rfl⟩

theorem storesTwo_pushPair (q : StackPair) (s : State) :
    StoresTwo (pushPair q s) s (s.sp - 1) (hiByte (s.stackPair q)) (s.sp - 2) (loByte (s.stackPair q)) fun w =>
      { w with sp := s.sp - 2, pc := s.pc + 1, cycles := s.count (.push q) true } :=
  storesTwo_of_push16 rfl (by simp [State.advance, State.pushed])

/-- Settles O12: the four pushes are one operation on the word the pair holds, AF's word being A and the packed flags. -/
theorem pushPair_spec : Obligations.PushPair := by
  unfold Obligations.PushPair
  refine ⟨fun i q hi => ⟨by rw [encode, hi]; rfl, fun s => ?_⟩, fun _ => rfl⟩
  rw [exec_eq_runKind, hi]
  cases q with
  | bc => exact storesTwo_pushPair .bc s
  | de => exact storesTwo_pushPair .de s
  | hl => exact storesTwo_pushPair .hl s
  | af => exact storesTwo_pushPair .af s

/-! ### Loads of a pair and additions to SP: one update each -/

/-- Settles O9: each meaning is the update of its pair or of sp and the advance of pc, as its definition says. -/
theorem sixteenBitLoads : Obligations.SixteenBitLoads := by
  unfold Obligations.SixteenBitLoads
  exact ⟨fun _ _ => rfl, fun _ _ => rfl, fun _ _ => rfl, fun _ _ => rfl, fun _ => rfl, fun _ => rfl, fun _ => rfl,
    fun _ => rfl, fun _ => rfl, rfl, fun _ _ => rfl, rfl⟩

/-- Settles O11: each meaning is the sum to its own place and the flags of `spAddFlags`, whose definition is R168's. -/
theorem stackPointerAdditions : Obligations.StackPointerAdditions := by
  unfold Obligations.StackPointerAdditions
  exact ⟨fun _ _ => ⟨rfl, rfl⟩, fun _ => rfl, fun _ => rfl, fun _ => rfl, fun _ => rfl⟩

end Sys2Proof.Machine
end

section
/-! 8-bit arithmetic and logic (R180 to R196): each meaning is its operand's read, one function of bytes and flags, and the
update; so a statement is that function written on numbers. -/

namespace Sys2Proof.Machine

open Sys2Proof.Claims

/-! ### Bytes as numbers (R8) -/

theorem byte_beq (r q : Byte) : (r == q) = decide (r.toNat = q.toNat) := by
  rw [beq_eq_decide]
  exact decide_eq_decide.2 BitVec.toNat_inj.symm

theorem byte_eq_ofNat {r : Byte} {n : Nat} (h : r.toNat = n) : r = BitVec.ofNat 8 n := (BitVec.toNat_eq_nat.1 h).2

/-! ### The accumulator operations (R180) -/

/-- The operand is read from the state before A is written; of the read only the external port sees anything (R180, R80). -/
theorem aluOp_eq (k : AluOp) (v : Src8) (s : State) :
    aluOp k v s = aluAnswer k s v (aluResult k s.regs.a (srcByte s v) s.flags).1
      (aluResult k s.regs.a (srcByte s v) s.flags).2 := by
  cases v with
  | reg r => rfl
  | imm n => rfl
  | atHL => simp [aluOp, aluAnswer, readSrc, readByte, srcByte, afterSrc, aluLength, Src8.length, State.setReg,
      State.setFlags, State.advance, State.hl, Regs.set]

section
variable {i : Instr} {k : AluOp} {v : Src8}

theorem exec_alu (hi : i.kind = .alu k v) (s : State) :
    exec i s = aluAnswer k s v (aluResult k s.regs.a (srcByte s v) s.flags).1
      (aluResult k s.regs.a (srcByte s v) s.flags).2 := by
  rw [exec_eq_runKind, hi]
  exact aluOp_eq k v s

theorem encode_alu (hi : i.kind = .alu k v) : encode i = aluBytes k.code v := by
  rw [encode, hi]
  cases v <;> rfl

/-- What an accumulator operation does follows from its function of A, the operand and the flags. -/
theorem aluIs_of_aluResult {result : Nat → Nat → Nat → Byte} {flags : Nat → Nat → Nat → Flags}
    (h : ∀ (a x : Byte) (f : Flags),
      aluResult k a x f = (result a.toNat x.toNat f.cin, flags a.toNat x.toNat f.cin)) : AluIs k result flags := by
  intro i v hi s
  rw [exec_alu hi, h]
  rfl

end

theorem cin_le_one (f : Flags) : f.cin ≤ 1 := by
  unfold Flags.cin
  split <;> decide

theorem addFlags_eq (a x : Byte) (c : Nat) :
    addFlags a x c = (BitVec.ofNat 8 ((a.toNat + x.toNat + c) % 256),
      ⟨decide ((a.toNat + x.toNat + c) % 256 = 0), false, decide (a.toNat % 16 + x.toNat % 16 + c > 15),
        decide (a.toNat + x.toNat + c > 255)⟩) := by
  have hr : (BitVec.ofNat 8 (a.toNat + x.toNat + c)).toNat = (a.toNat + x.toNat + c) % 256 := BitVec.toNat_ofNat _ _
  rw [addFlags, byte_beq, hr, byte_eq_ofNat hr]
  rfl

/-- Settles O16: both are `addFlags`, ADD with no carry in. -/
theorem addAndAddWithCarry : Obligations.AddAndAddWithCarry := by
  unfold Obligations.AddAndAddWithCarry
  exact ⟨aluIs_of_aluResult fun a x _ => addFlags_eq a x 0, aluIs_of_aluResult fun a x f => addFlags_eq a x f.cin,
    fun i v => ⟨encode_alu, encode_alu⟩⟩

/-- 512 keeps the difference above zero, whatever the bytes and the borrow. -/
theorem subFlags_eq (a x : Byte) {c : Nat} (hc : c ≤ 1) :
    subFlags a x c = (BitVec.ofNat 8 ((a.toNat + 512 - x.toNat - c) % 256),
      ⟨decide ((a.toNat + 512 - x.toNat - c) % 256 = 0), true, decide (a.toNat % 16 < x.toNat % 16 + c),
        decide (a.toNat < x.toNat + c)⟩) := by
  have hr : (BitVec.ofInt 8 ((a.toNat : Int) - x.toNat - c)).toNat = (a.toNat + 512 - x.toNat - c) % 256 := by
    rw [BitVec.toNat_ofInt]
    omega
  rw [subFlags, byte_beq, hr, byte_eq_ofNat hr]
  rfl

/-- With no borrow in, the difference is zero exactly if the bytes are equal (R183, R188). -/
theorem subFlags_zero (a x : Byte) :
    subFlags a x 0 = (BitVec.ofNat 8 ((a.toNat + 256 - x.toNat) % 256),
      ⟨decide (a.toNat = x.toNat), true, decide (a.toNat % 16 < x.toNat % 16), decide (a.toNat < x.toNat)⟩) := by
  have hr : (a.toNat + 512 - x.toNat - 0) % 256 = (a.toNat + 256 - x.toNat) % 256 := by omega
  have hz : (a.toNat + 256 - x.toNat) % 256 = 0 ↔ a.toNat = x.toNat := by omega
  rw [subFlags_eq a x (Nat.zero_le 1), hr, decide_eq_decide.2 hz]
  rfl

/-- Settles O17: SUB and SBC are `subFlags`; CP takes its flags from the same function and writes A with A. -/
theorem subtractAndCompare : Obligations.SubtractAndCompare := by
  unfold Obligations.SubtractAndCompare
  refine ⟨aluIs_of_aluResult fun a x _ => subFlags_zero a x,
    aluIs_of_aluResult fun a x f => subFlags_eq a x (cin_le_one f), aluIs_of_aluResult fun a x _ => ?cp,
    fun i v => ⟨encode_alu, encode_alu, encode_alu⟩⟩
  case cp => rw [aluResult, subFlags_zero, ← byte_eq_ofNat rfl]

theorem logicFlags_eq {r : Byte} {n : Nat} (h : r.toNat = n) :
    logicFlags r = (BitVec.ofNat 8 n, ⟨decide (n = 0), false, true, false⟩) := by
  rw [logicFlags, byte_beq, h, byte_eq_ofNat h]
  rfl

/-- Settles O18: the bitwise operation on bytes is the one on their numbers, and the flags are `logicFlags`. -/
theorem logicForcesHalfCarry : Obligations.LogicForcesHalfCarry := by
  unfold Obligations.LogicForcesHalfCarry
  exact ⟨aluIs_of_aluResult fun a x _ => logicFlags_eq (BitVec.toNat_and a x),
    aluIs_of_aluResult fun a x _ => logicFlags_eq (BitVec.toNat_xor a x),
    aluIs_of_aluResult fun a x _ => logicFlags_eq (BitVec.toNat_or a x),
    fun i v => ⟨encode_alu, encode_alu, encode_alu⟩⟩

/-- Settles O15: whatever the operation computes, it goes to A and the flags. -/
theorem accumulatorForms : Obligations.AccumulatorForms := by
  unfold Obligations.AccumulatorForms
  exact ⟨fun i k v hi => ⟨encode_alu hi, fun s => ⟨_, _, exec_alu hi s⟩⟩, fun _ _ => rfl, fun _ => rfl, fun _ _ => rfl,
    rfl⟩

/-! ### A byte read, changed and written back (R11, R85) -/

section
variable {i : Instr} {s : State}

/-- A read of an address whose write is fatal is seen by no port, so the latch is all that such a write-back leaves. -/
theorem storesByte_of_writeBack {a : Word} {v : Byte} {g fin : State → State}
    (hexec : exec i s = ((writeByte a v (s.noteRead a)).map g).result)
    (hfin : g ((s.noteRead a).written a v) = fin ((s.noteRead a).written a v)) :
    StoresByte i s (s.noteRead a) a v fin := by
  refine ⟨fun h => ?writable, fun h => ?unused, fun h hp => ?rom⟩
  case writable =>
    have hw := writeByte_of_writable (s := s.noteRead a) (by simpa [Writable] using h) v
    refine ⟨_, hw, ?_⟩
    rw [hexec, hw, ← hfin]
    rfl
  case unused =>
    rw [hexec, noteRead_of_ne s (by rw [target_unused h]; decide), writeByte_of_unused h]
    rfl
  case rom =>
    have ht : s.target a ≠ .ioPort := by
      intro ht
      obtain ⟨n, hn⟩ | ⟨n, hn⟩ := (route_rom_iff s.bootRomEnabled a).2 h <;>
        exact absurd (ht.symm.trans hn) (by simp)
    rw [hexec, noteRead_of_ne s ht, writeByte_of_rom_fault h hp]
    rfl

/-- A meaning that writes its operand back and then makes one update `g` of flags, pc and report. -/
theorem locIs_of_writeLoc {d : Loc8} {v : Byte} {f : Flags} {len : Word} {n : Nat} {g : State → State}
    (hexec : exec i s = ((writeLoc d v (readLoc d s).2).map g).result)
    (hg : ∀ t, t.flags = s.flags → t.pc = s.pc → g t = { t with flags := f, pc := s.pc + len, cycles := n }) :
    LocIs i d s v f len n := by
  cases d with
  | reg r =>
    rw [LocIs, hexec]
    exact congrArg Host.Outcome.next (hg (s.setReg r v) rfl rfl)
  | atHL =>
    refine storesByte_of_writeBack (g := g) ?_ (hg _ (by simp) (by simp))
    have hhl : (readLoc .atHL s).2.hl = s.regs.hl := hl_readLoc .atHL s
    rw [hexec, writeLoc, hhl]
    rfl

end

/-- INC on numbers (R189). -/
theorem incResult_eq (o : Byte) :
    incResult o = (BitVec.ofNat 8 ((o.toNat + 1) % 256),
      ⟨decide ((o.toNat + 1) % 256 = 0), false, decide (o.toNat % 16 = 15), decide (o.toNat = 255)⟩) := by
  have hr : (o + 1).toNat = (o.toNat + 1) % 256 := BitVec.toNat_add o 1
  rw [incResult, byte_beq, byte_beq, hr, byte_eq_ofNat hr]
  rfl

/-- DEC on numbers (R191). -/
theorem decResult_eq (o : Byte) :
    decResult o = (BitVec.ofNat 8 ((o.toNat + 255) % 256),
      ⟨decide (o.toNat = 1), true, decide (o.toNat % 16 = 0), decide (o.toNat = 0)⟩) := by
  have hr : (o - 1).toNat = (o.toNat + 255) % 256 := by bv_omega
  have hz : (o.toNat + 255) % 256 = (0 : Byte).toNat ↔ o.toNat = 1 := by bv_omega
  rw [decResult, byte_beq, byte_beq, hr, byte_eq_ofNat hr, decide_eq_decide.2 hz]
  rfl

theorem fst_readLoc (d : Loc8) (s : State) : (readLoc d s).1 = locByte s d := by
  cases d <;> rfl

theorem locIs_incLoc {i : Instr} {d : Loc8} (hi : i.kind = .inc8 d) (s : State) :
    LocIs i d s (incResult (locByte s d)).1 (incResult (locByte s d)).2 1 (s.count (.inc8 d) true) := by
  have hexec : exec i s = incLoc d s := by
    rw [exec_eq_runKind, hi]
    rfl
  rw [← fst_readLoc]
  exact locIs_of_writeLoc hexec fun t _ hpc => by rw [← hpc]; rfl

theorem locIs_decLoc {i : Instr} {d : Loc8} (hi : i.kind = .dec8 d) (s : State) :
    LocIs i d s (decResult (locByte s d)).1 (decResult (locByte s d)).2 1 (s.count (.dec8 d) true) := by
  have hexec : exec i s = decLoc d s := by
    rw [exec_eq_runKind, hi]
    rfl
  rw [← fst_readLoc]
  exact locIs_of_writeLoc hexec fun t _ hpc => by rw [← hpc]; rfl

/-- Settles O19: a write-back of the operand's `incResult` or `decResult`, on numbers. -/
theorem incrementDecrementByte : Obligations.IncrementDecrementByte := by
  unfold Obligations.IncrementDecrementByte
  refine ⟨fun i d hi => ⟨by rw [encode, hi]; rfl, fun s => ?inc⟩, fun i d hi => ⟨by rw [encode, hi]; rfl, fun s => ?dec⟩,
    fun _ => ⟨rfl, rfl⟩, rfl, rfl⟩
  case inc => simpa only [incResult_eq] using locIs_incLoc hi s
  case dec => simpa only [decResult_eq] using locIs_decLoc hi s

/-! ### Decimal adjustment (R193) -/

/-- Whether R193 corrects the low digit of the number `a`. -/
def daaLow (a : Nat) (f : Flags) : Bool := if f.n then f.h else f.h || decide (a % 16 > 9)

/-- Whether R193 corrects the high digit of the number `a`. -/
def daaHigh (a : Nat) (f : Flags) : Bool := if f.n then f.c else f.c || decide (a > 0x99)

/-- The correction of R193. -/
def daaAdjust (a : Nat) (f : Flags) : Nat := (if daaLow a f then 0x06 else 0x00) + (if daaHigh a f then 0x60 else 0x00)

/-- The number R193 leaves in A. -/
def daaNumber (a : Nat) (f : Flags) : Nat := (if f.n then a + 256 - daaAdjust a f else a + daaAdjust a f) % 256

/-- The correction as the model makes it, a union of bytes. -/
def daaCorrection (a : Nat) (f : Flags) : Byte :=
  (if daaLow a f then 0x06 else 0x00) ||| (if daaHigh a f then 0x60 else 0x00)

/-- The two corrections share no bit, so their union is their sum. -/
theorem toNat_daaCorrection (a : Nat) (f : Flags) : (daaCorrection a f).toNat = daaAdjust a f := by
  unfold daaCorrection daaAdjust
  cases daaLow a f <;> cases daaHigh a f <;> rfl

theorem daaResult_eq_correction (a : Byte) (f : Flags) :
    (daaResult a f).1 = if f.n then a - daaCorrection a.toNat f else a + daaCorrection a.toNat f := rfl

theorem toNat_daaResult (a : Byte) (f : Flags) : (daaResult a f).1.toNat = daaNumber a.toNat f := by
  have hlt : daaAdjust a.toNat f < 256 := toNat_daaCorrection a.toNat f ▸ (daaCorrection a.toNat f).isLt
  rw [daaResult_eq_correction, daaNumber]
  split
  · rw [BitVec.toNat_sub, toNat_daaCorrection]
    omega
  · rw [BitVec.toNat_add, toNat_daaCorrection]

/-- DAA on numbers (R193). -/
theorem daaResult_eq (a : Byte) (f : Flags) :
    daaResult a f = (BitVec.ofNat 8 (daaNumber a.toNat f),
      ⟨decide (daaNumber a.toNat f = 0), f.n, false, if f.n then f.c else daaHigh a.toNat f⟩) := by
  have hr := toNat_daaResult a f
  calc daaResult a f
      = ((daaResult a f).1, ⟨(daaResult a f).1 == 0, f.n, false, if f.n then f.c else daaHigh a.toNat f⟩) := rfl
    _ = _ := by
      rw [byte_beq, hr, byte_eq_ofNat hr]
      rfl

theorem exec_daa (s : State) :
    exec .daa s = .next { s with
      regs := { s.regs with a := (daaResult s.regs.a s.flags).1 }, flags := (daaResult s.regs.a s.flags).2
      pc := s.pc + 1, cycles := s.count .daa true } := rfl

/-- Settles O20: `daaResult` on numbers. -/
theorem decimalAdjust_spec : Obligations.DecimalAdjust := by
  unfold Obligations.DecimalAdjust
  refine ⟨fun s => ?_, rfl, rfl⟩
  rw [exec_daa, daaResult_eq]
  rfl

/-! ### Packed decimal addition: `p` is the sum of the tens, `u` that of the units -/

/-- A byte of the digits `t` and `v` is the packed form of the number of those digits. -/
theorem ofNat_eq_bcd {m n t v : Nat} (hv : v < 10) (hm : m = 16 * t + v) (hn : n = 10 * t + v) :
    BitVec.ofNat 8 m = bcd n := by
  have ht : n / 10 = t := by omega
  have hu : n % 10 = v := by omega
  rw [bcd, ht, hu, hm]

theorem toNat_bcd {x : Nat} (hx : x < 100) : (bcd x).toNat = 16 * (x / 10) + x % 10 := by
  rw [bcd, BitVec.toNat_ofNat]
  omega

/-- The flags ADD leaves after the packed sum. -/
def bcdSumFlags (p u : Nat) : Flags :=
  ⟨decide ((16 * p + u) % 256 = 0), false, decide (u > 15), decide (16 * p + u > 255)⟩

theorem addFlags_bcd {x y : Nat} (hx : x < 100) (hy : y < 100) :
    addFlags (bcd x) (bcd y) 0 = (BitVec.ofNat 8 ((16 * (x / 10 + y / 10) + (x % 10 + y % 10)) % 256),
      bcdSumFlags (x / 10 + y / 10) (x % 10 + y % 10)) := by
  have hsum : (bcd x).toNat + (bcd y).toNat + 0 = 16 * (x / 10 + y / 10) + (x % 10 + y % 10) := by
    rw [toNat_bcd hx, toNat_bcd hy]
    omega
  have hunits : (bcd x).toNat % 16 + (bcd y).toNat % 16 + 0 = x % 10 + y % 10 := by
    rw [toNat_bcd hx, toNat_bcd hy]
    omega
  rw [addFlags_eq, hsum, hunits]
  rfl

section
variable {p u : Nat}

/-- The low correction is made exactly if the units carry. -/
theorem daaLow_bcdSum (hu : u ≤ 18) : daaLow ((16 * p + u) % 256) (bcdSumFlags p u) = decide (u ≥ 10) := by
  have h : u > 15 ∨ (16 * p + u) % 256 % 16 > 9 ↔ u ≥ 10 := by omega
  rw [← decide_eq_decide.2 h, Bool.decide_or]
  rfl

/-- The high correction is made exactly if the sum has a third digit. -/
theorem daaHigh_bcdSum (hp : p ≤ 18) (hu : u ≤ 18) :
    daaHigh ((16 * p + u) % 256) (bcdSumFlags p u) = decide (10 * p + u ≥ 100) := by
  have h : 16 * p + u > 255 ∨ (16 * p + u) % 256 > 0x99 ↔ 10 * p + u ≥ 100 := by omega
  rw [← decide_eq_decide.2 h, Bool.decide_or]
  rfl

theorem daaNumber_bcdSum (hp : p ≤ 18) (hu : u ≤ 18) :
    daaNumber ((16 * p + u) % 256) (bcdSumFlags p u) =
      ((16 * p + u) % 256 + ((if u ≥ 10 then 0x06 else 0x00) + (if 10 * p + u ≥ 100 then 0x60 else 0x00))) % 256 := by
  have hn : (bcdSumFlags p u).n = false := rfl
  simp [daaNumber, daaAdjust, daaLow_bcdSum hu, daaHigh_bcdSum hp hu, hn]

/-- The corrections carry the units into the tens and drop the hundreds. -/
theorem ofNat_daaNumber_bcdSum (hp : p ≤ 18) (hu : u ≤ 18) :
    BitVec.ofNat 8 (daaNumber ((16 * p + u) % 256) (bcdSumFlags p u)) = bcd ((10 * p + u) % 100) := by
  rw [daaNumber_bcdSum hp hu]
  split <;> split
  · exact ofNat_eq_bcd (t := p - 9) (v := u - 10) (by omega) (by omega) (by omega)
  · exact ofNat_eq_bcd (t := p + 1) (v := u - 10) (by omega) (by omega) (by omega)
  · exact ofNat_eq_bcd (t := p - 10) (v := u) (by omega) (by omega) (by omega)
  · exact ofNat_eq_bcd (t := p) (v := u) (by omega) (by omega) (by omega)

theorem daaResult_bcdSum (hp : p ≤ 18) (hu : u ≤ 18) :
    (daaResult (BitVec.ofNat 8 ((16 * p + u) % 256)) (bcdSumFlags p u)).1 = bcd ((10 * p + u) % 100) ∧
      (daaResult (BitVec.ofNat 8 ((16 * p + u) % 256)) (bcdSumFlags p u)).2.c = decide (10 * p + u ≥ 100) := by
  have hsum : (BitVec.ofNat 8 ((16 * p + u) % 256)).toNat = (16 * p + u) % 256 := by
    rw [BitVec.toNat_ofNat, Nat.mod_mod]
  rw [daaResult_eq, hsum]
  exact ⟨ofNat_daaNumber_bcdSum hp hu, daaHigh_bcdSum hp hu⟩

end

/-- Settles O21: DAA takes the sum and the flags that ADD leaves. -/
theorem decimalAdditionIsExact : Obligations.DecimalAdditionIsExact := by
  unfold Obligations.DecimalAdditionIsExact
  intro x y s hx hy ha hb
  have hadd : exec .add_a_b s = aluAnswer .add s (.reg .b) (addFlags (bcd x) (bcd y) 0).1 (addFlags (bcd x) (bcd y) 0).2 := by
    rw [← ha, ← hb]
    exact exec_alu rfl s
  have hp : x / 10 + y / 10 ≤ 18 := by omega
  have hu : x % 10 + y % 10 ≤ 18 := by omega
  have hxy : 10 * (x / 10 + y / 10) + (x % 10 + y % 10) = x + y := by omega
  have hdaa := daaResult_bcdSum hp hu
  rw [hxy] at hdaa
  rw [addFlags_bcd hx hy] at hadd
  exact ⟨_, _, hadd, exec_daa _, hdaa⟩

/-! ### CPL, SCF and CCF (R194 to R196) -/

/-- Settles O22: the complement of a byte is 255 less its number; the flags are those of the definitions. -/
theorem complementAndCarryInstructions : Obligations.ComplementAndCarryInstructions := by
  unfold Obligations.ComplementAndCarryInstructions
  refine ⟨fun s => ⟨?cpl, rfl, rfl⟩, rfl, rfl, rfl, rfl, rfl, rfl⟩
  case cpl =>
    have hnot : (~~~s.regs.a).toNat = 255 - s.regs.a.toNat := BitVec.toNat_not
    rw [← byte_eq_ofNat hnot]
    rfl

end Sys2Proof.Machine
end

section
/-! 16-bit arithmetic (R210 to R212): a sum or a step of words is that of their numbers modulo 65536, written to its pair. -/

namespace Sys2Proof.Machine

/-! ### Words as numbers (R8) -/

theorem word_eq_ofNat {w : Word} {n : Nat} (h : w.toNat = n) : w = BitVec.ofNat 16 n := (BitVec.toNat_eq_nat.1 h).2

/-- ADD HL on numbers (R210, D5). -/
theorem addWordResult_eq (x v : Word) :
    addWordResult x v = (BitVec.ofNat 16 ((x.toNat + v.toNat) % 65536),
      ⟨decide ((x.toNat + v.toNat) % 65536 = 0), false, decide (x.toNat % 0x1000 + v.toNat % 0x1000 > 0x0FFF),
        decide (x.toNat + v.toNat > 0xFFFF)⟩) := by
  have hr : (x + v).toNat = (x.toNat + v.toNat) % 65536 := BitVec.toNat_add x v
  have hz : x + v = 0 ↔ (x.toNat + v.toNat) % 65536 = 0 := by rw [← hr, ← BitVec.toNat_inj]; rfl
  rw [addWordResult, beq_eq_decide, decide_eq_decide.2 hz, word_eq_ofNat hr]

/-- INC on the number of a word (R211). -/
theorem word_add_one_eq (v : Word) : v + 1 = BitVec.ofNat 16 ((v.toNat + 1) % 65536) :=
  word_eq_ofNat (BitVec.toNat_add v 1)

/-- DEC on the number of a word (R212). -/
theorem word_sub_one_eq (v : Word) : v - 1 = BitVec.ofNat 16 ((v.toNat + 65535) % 65536) :=
  word_eq_ofNat (by bv_omega)

/-! ### What each meaning changes -/

/-- ADD HL changes HL, the flags, pc and the report (R210). -/
theorem addHLPair_eq (p : Pair) (s : State) :
    addHLPair p s = .next { s with
      regs := s.regs.setHL (addWordResult s.regs.hl (s.pair p)).1, flags := (addWordResult s.regs.hl (s.pair p)).2
      pc := s.pc + 1, cycles := s.count (.addHL p) true } := rfl

/-- A write of a pair leaves pc, which then advances by 1 (R105). -/
theorem advance_setPair (s : State) (p : Pair) (v : Word) (n : Nat) :
    (s.setPair p v).advance 1 n = { s.setPair p v with pc := s.pc + 1, cycles := n } := by
  rw [State.advance, setPair_pc]

/-- Settles O23: each meaning is one update of the pair, of a word that is the sum or the step of numbers. -/
theorem wordArithmetic : Obligations.WordArithmetic := by
  unfold Obligations.WordArithmetic
  refine ⟨fun i p hi => ⟨by rw [encode, hi]; rfl, fun s => ?addHL⟩, fun i p hi => ⟨by rw [encode, hi]; rfl, fun s => ?inc⟩,
    fun i p hi => ⟨by rw [encode, hi]; rfl, fun s => ?dec⟩, fun _ => ⟨rfl, rfl, rfl⟩⟩
  case addHL => rw [exec_eq_runKind, hi, runKind, addHLPair_eq, addWordResult_eq]
  case inc => rw [exec_eq_runKind, hi, runKind, incPairOp, advance_setPair, word_add_one_eq]
  case dec => rw [exec_eq_runKind, hi, runKind, decPairOp, advance_setPair, word_sub_one_eq]

end Sys2Proof.Machine
end

section
/-! Rotates, shifts and bit operations (R220 to R235). A rotate or shift moves the byte by one place and lets one bit in at the
free end; that bit meets a zero, so the union of the two is their sum, and the result is the rule's arithmetic. -/

namespace Sys2Proof.Machine

open Sys2Proof.Claims

/-! ### The end bits and one shift as numbers (R8) -/

theorem getLsbD_seven (v : Byte) : v.getLsbD 7 = decide (v.toNat ≥ 128) :=
  (BitVec.msb_eq_getLsbD_last v).symm.trans (BitVec.msb_eq_decide v)

theorem getLsbD_zero_eq_odd (v : Byte) : v.getLsbD 0 = decide (v.toNat % 2 = 1) := by
  rw [← BitVec.testBit_toNat, Nat.testBit_zero]

theorem ite_getLsbD_seven (v : Byte) : (if v.getLsbD 7 then 1 else 0) = v.toNat / 128 := by
  have hv := v.isLt
  simp only [getLsbD_seven, decide_eq_true_eq]
  split <;> omega

theorem ite_getLsbD_zero (v : Byte) : (if v.getLsbD 0 then 1 else 0) = v.toNat % 2 := by
  simp only [getLsbD_zero_eq_odd, decide_eq_true_eq]
  split <;> omega

theorem toNat_bitOf (b : Bool) : (bitOf b).toNat = if b then 1 else 0 := by
  cases b <;> rfl

/-- A shift left with the bit `b` let in at the low end. -/
theorem toNat_shiftLeft_or_bitOf (v : Byte) (b : Bool) :
    ((v <<< 1) ||| bitOf b).toNat = 2 * v.toNat % 256 + (if b then 1 else 0) := by
  have hdisjoint : v <<< 1 &&& bitOf b = 0 := by
    cases b
    · exact BitVec.and_zero
    · exact (BitVec.and_twoPow (v <<< 1) 0).trans (by simp)
  rw [← BitVec.add_eq_or_of_and_eq_zero _ _ hdisjoint, BitVec.toNat_add, BitVec.toNat_shiftLeft, Nat.shiftLeft_eq,
    toNat_bitOf]
  split <;> omega

/-- A shift right with the bit `b` let in at the high end. -/
theorem toNat_shiftRight_or_bitOf (v : Byte) (b : Bool) :
    ((v >>> 1) ||| (bitOf b <<< 7)).toNat = v.toNat / 2 + 128 * (if b then 1 else 0) := by
  have hdisjoint : v >>> 1 &&& bitOf b <<< 7 = 0 := by
    cases b
    · exact BitVec.and_zero
    · exact (BitVec.and_twoPow (v >>> 1) 7).trans (by simp)
  have hv := v.isLt
  rw [← BitVec.add_eq_or_of_and_eq_zero _ _ hdisjoint, BitVec.toNat_add, BitVec.toNat_ushiftRight, Nat.shiftRight_eq_div_pow,
    BitVec.toNat_shiftLeft, Nat.shiftLeft_eq, toNat_bitOf]
  split <;> omega

/-- SRA lets the sign in again (R230). -/
theorem and_sign_eq (v : Byte) : v &&& (0x80 : Byte) = bitOf (v.getLsbD 7) <<< 7 := by
  refine (BitVec.and_twoPow v 7).trans ?_
  cases v.getLsbD 7 <;> rfl

/-- The two nibbles exchanged (R231). -/
theorem toNat_swap (v : Byte) : (((v &&& 0x0F) <<< 4) ||| (v >>> 4)).toNat = 16 * (v.toNat % 16) + v.toNat / 16 := by
  have hv := v.isLt
  have hlow : (v &&& 0x0F).toNat = v.toNat % 16 := Nat.and_two_pow_sub_one_eq_mod v.toNat 4
  have hhigh : ((v &&& 0x0F) <<< 4).toNat = (v.toNat % 16) <<< 4 := by
    rw [BitVec.toNat_shiftLeft, hlow, Nat.shiftLeft_eq]
    omega
  rw [BitVec.toNat_or, hhigh, BitVec.toNat_ushiftRight, Nat.shiftRight_eq_div_pow, ← Nat.shiftLeft_add_eq_or_of_lt (by omega),
    Nat.shiftLeft_eq]
  omega

/-! ### The rotates and shifts as arithmetic (R220 to R232) -/

theorem toNat_rotate (k : CbRot) (v : Byte) (f : Flags) : (rotate k v f.c).1.toNat = rotated k v.toNat f.cin := by
  cases k with
  | rl => exact toNat_shiftLeft_or_bitOf v f.c
  | rr => exact toNat_shiftRight_or_bitOf v f.c
  | sla => exact (congrArg BitVec.toNat BitVec.or_zero.symm).trans (toNat_shiftLeft_or_bitOf v false)
  | srl => exact (congrArg BitVec.toNat BitVec.or_zero.symm).trans (toNat_shiftRight_or_bitOf v false)
  | swap => exact toNat_swap v
  | rlc =>
    rw [rotate, toNat_shiftLeft_or_bitOf, ite_getLsbD_seven]
    rfl
  | rrc =>
    rw [rotate, toNat_shiftRight_or_bitOf, ite_getLsbD_zero]
    rfl
  | sra =>
    rw [rotate, and_sign_eq, toNat_shiftRight_or_bitOf, ite_getLsbD_seven]
    rfl

theorem snd_rotate (k : CbRot) (v : Byte) (c : Bool) : (rotate k v c).2 = rotatedOut k v.toNat := by
  cases k with
  | rlc | rl | sla => exact getLsbD_seven v
  | rrc | rr | sra | srl => exact getLsbD_zero_eq_odd v
  | swap => rfl

/-- The general forms on numbers (R224). -/
theorem rotateResult_eq (k : CbRot) (v : Byte) (f : Flags) :
    rotateResult k v f = (BitVec.ofNat 8 (rotated k v.toNat f.cin),
      ⟨decide (rotated k v.toNat f.cin = 0), false, false, rotatedOut k v.toNat⟩) := by
  have hr := toNat_rotate k v f
  rw [rotateResult, byte_beq, hr, byte_eq_ofNat hr, snd_rotate]
  rfl

/-- The accumulator-only forms on numbers: a zero result leaves fZ false (D7). -/
theorem accRotateResult_eq (k : AccRot) (v : Byte) (f : Flags) :
    accRotateResult k v f = (BitVec.ofNat 8 (rotated (accGeneral k) v.toNat f.cin),
      ⟨false, false, false, rotatedOut (accGeneral k) v.toNat⟩) := by
  have hk : k.general = accGeneral k := by cases k <;> rfl
  rw [accRotateResult, hk, byte_eq_ofNat (toNat_rotate (accGeneral k) v f), snd_rotate]

/-! ### Each instruction is its kind's meaning, on numbers -/

theorem exec_of_kind {i : Instr} {k : Kind} (hi : i.kind = k) (s : State) : exec i s = runKind k s :=
  hi ▸ exec_eq_runKind i s

theorem accRotateOp_eq (k : AccRot) (s : State) :
    accRotateOp k s = .next { s with
      regs := { s.regs with a := (accRotateResult k s.regs.a s.flags).1 }, flags := (accRotateResult k s.regs.a s.flags).2
      pc := s.pc + 1, cycles := s.count (.accRotate k) true } := rfl

/-- Settles O24: `accRotateResult` on numbers. -/
theorem accumulatorRotates : Obligations.AccumulatorRotates := by
  unfold Obligations.AccumulatorRotates
  refine ⟨fun i k hi s => ?_, rfl, rfl, rfl, rfl, fun _ => rfl⟩
  rw [exec_of_kind hi, runKind, accRotateOp_eq, accRotateResult_eq]
  rfl

theorem locIs_cbRotate {i : Instr} {k : CbRot} {d : Loc8} (hi : i.kind = .cbRotate k d) (s : State) :
    LocIs i d s (rotateResult k (locByte s d) s.flags).1 (rotateResult k (locByte s d) s.flags).2 2
      (s.count (.cbRotate k d) true) := by
  rw [← fst_readLoc]
  exact locIs_of_writeLoc (exec_of_kind hi s) fun t _ hpc => by rw [← hpc]; rfl

/-- Settles O25: a write-back of the operand's `rotateResult`, on numbers. -/
theorem generalRotatesAndShifts : Obligations.GeneralRotatesAndShifts := by
  unfold Obligations.GeneralRotatesAndShifts
  refine ⟨fun i k d hi => ⟨by rw [encode, hi]; rfl, fun s => ?_⟩, rfl, fun _ _ => rfl, fun _ => rfl⟩
  have h := locIs_cbRotate hi s
  rw [rotateResult_eq] at h
  exact h

/-! ### One bit tested, cleared or set (R233 to R235) -/

theorem getLsbD_clearBit (v : Byte) (b : BitVec 3) (k : Nat) :
    (clearBit v b).getLsbD k = (v.getLsbD k && decide (k ≠ b.toNat)) := by
  by_cases hk : k < 8
  · simp [clearBit, ← BitVec.twoPow_eq, hk]
  · simp [BitVec.getLsbD_of_ge, Nat.not_lt.1 hk]

theorem getLsbD_setBit (v : Byte) (b : BitVec 3) (k : Nat) :
    (setBit v b).getLsbD k = (v.getLsbD k || decide (k = b.toNat)) := by
  have hb : b.toNat < 8 := b.isLt
  rw [setBit, ← BitVec.twoPow_eq, BitVec.getLsbD_or, BitVec.getLsbD_twoPow, decide_eq_true hb, Bool.true_and,
    decide_eq_decide.2 eq_comm]

theorem snd_readLoc (d : Loc8) (s : State) : (readLoc d s).2 = afterLoc s d := by
  cases d <;> rfl

/-- BIT leaves the state of its read, with the flags, pc and the report written (R233). -/
theorem bitTestOp_eq (b : BitVec 3) (d : Loc8) (s : State) :
    bitTestOp b d s = .next { afterLoc s d with
      flags := bitFlags (locByte s d) b s.flags, pc := s.pc + 2, cycles := s.count (.bitTest b d) true } := by
  rw [← snd_readLoc, ← fst_readLoc, ← readLoc_pc d s]
  rfl

theorem locIs_bitReset {i : Instr} {b : BitVec 3} {d : Loc8} (hi : i.kind = .bitReset b d) (s : State) :
    LocIs i d s (clearBit (locByte s d) b) s.flags 2 (s.count (.bitReset b d) true) := by
  rw [← fst_readLoc]
  exact locIs_of_writeLoc (exec_of_kind hi s) fun t hf hpc => by rw [← hf, ← hpc]; rfl

theorem locIs_bitSet {i : Instr} {b : BitVec 3} {d : Loc8} (hi : i.kind = .bitSet b d) (s : State) :
    LocIs i d s (setBit (locByte s d) b) s.flags 2 (s.count (.bitSet b d) true) := by
  rw [← fst_readLoc]
  exact locIs_of_writeLoc (exec_of_kind hi s) fun t hf hpc => by rw [← hf, ← hpc]; rfl

/-- Settles O26: BIT is a read and a write of the flags, RES and SET a write-back of `clearBit` and `setBit`, read bit by bit. -/
theorem bitInstructions : Obligations.BitInstructions := by
  unfold Obligations.BitInstructions
  refine ⟨fun i b d hi => ⟨by rw [encode, hi]; rfl, fun s => ?test⟩,
    fun i b d hi => ⟨by rw [encode, hi]; rfl, fun s => ⟨_, getLsbD_clearBit _ b, locIs_bitReset hi s⟩⟩,
    fun i b d hi => ⟨by rw [encode, hi]; rfl, fun s => ⟨_, getLsbD_setBit _ b, locIs_bitSet hi s⟩⟩,
    fun _ _ => ⟨rfl, rfl, rfl⟩, fun _ => ⟨rfl, rfl, rfl⟩⟩
  case test =>
    rw [exec_of_kind hi, runKind, bitTestOp_eq]
    rfl

end Sys2Proof.Machine
end

section
/-! Jumps, calls and returns (R250 to R261): a conditional form is its unconditional form if the condition holds, and the advance
of pc if not; a call is a push and a return a pop, each followed by the write of pc. -/

namespace Sys2Proof.Machine

open Sys2Proof.Claims

/-! ### Calls (R256, R257, R261) -/

/-- A call stores the return address as a push does; sp, pc and the report are written after both bytes. -/
theorem storesTwo_pushAndJump (back target : Word) (n : Nat) (s : State) :
    StoresTwo (pushAndJump back target n s) s (s.sp - 1) (hiByte back) (s.sp - 2) (loByte back) fun w =>
      { w with sp := s.sp - 2, pc := target, cycles := n } :=
  storesTwo_of_push16 rfl rfl

theorem callAbsCond_of_holds {cc : Cond} {s : State} (h : cc.holds s.flags = true) (nn : Word) :
    callAbsCond cc nn s = pushAndJump (s.pc + 3) nn (s.count (.callCond cc nn) true) s := if_pos h

theorem callAbsCond_of_not_holds {cc : Cond} {s : State} (h : cc.holds s.flags = false) (nn : Word) :
    callAbsCond cc nn s = .next (s.advance 3 (s.count (.callCond cc nn) false)) := if_neg (ne_true_of_eq_false h)

theorem restart_eq (y : BitVec 3) (s : State) :
    restart y s = pushAndJump (s.pc + 1) (BitVec.ofNat 16 (8 * y.toNat)) (s.count (.rst y) true) s := by
  rw [restart, rstVector, Nat.mul_comm]

/-- Settles O28: a call that is taken is a push of its return address and a jump, in each of the three forms. -/
theorem callsPushTheReturnAddress : Obligations.CallsPushTheReturnAddress := by
  unfold Obligations.CallsPushTheReturnAddress
  refine ⟨fun nn s => storesTwo_pushAndJump _ nn _ s, fun i cc nn hi => ⟨by rw [encode, hi]; rfl, fun s => ⟨fun h => ?taken,
    fun h => ?notTaken⟩⟩, fun i y hi => ⟨by rw [encode, hi]; rfl, fun s => ?rst⟩, fun _ => rfl, fun _ => rfl,
    fun _ _ => ⟨rfl, rfl⟩, fun _ => rfl⟩
  case taken =>
    rw [exec_of_kind hi, runKind, callAbsCond_of_holds h]
    exact storesTwo_pushAndJump _ nn _ s
  case notTaken =>
    rw [exec_of_kind hi, runKind, callAbsCond_of_not_holds h]
    rfl
  case rst =>
    rw [exec_of_kind hi, runKind, restart_eq]
    exact storesTwo_pushAndJump _ _ _ s

/-! ### Jumps (R251 to R255) -/

/-- Each condition tests one flag for one value (R106, R250). -/
theorem cond_holds_eq (f : Flags) :
    Cond.holds .nz f = decide (f.z = false) ∧ Cond.holds .z f = decide (f.z = true) ∧
      Cond.holds .nc f = decide (f.c = false) ∧ Cond.holds .c f = decide (f.c = true) :=
  ⟨Bool.decide_eq_false.symm, Bool.decide_eq_true.symm, Bool.decide_eq_false.symm, Bool.decide_eq_true.symm⟩

theorem jumpAbsCond_eq (cc : Cond) (nn : Word) (s : State) :
    jumpAbsCond cc nn s = .next (if cc.holds s.flags then s.jumpTo nn (s.count (.jpCond cc nn) true)
      else s.advance 3 (s.count (.jpCond cc nn) false)) := (apply_ite Host.Outcome.next _ _ _).symm

theorem jumpRelCond_eq (cc : Cond) (e : Byte) (s : State) :
    jumpRelCond cc e s = .next (if cc.holds s.flags then s.jumpTo (s.relTarget e) (s.count (.jrCond cc e) true)
      else s.advance 2 (s.count (.jrCond cc e) false)) := (apply_ite Host.Outcome.next _ _ _).symm

/-- Settles O27: a jump writes pc and the report and nothing else, whether it is taken or not. -/
theorem jumpsTakeTheirCondition : Obligations.JumpsTakeTheirCondition := by
  unfold Obligations.JumpsTakeTheirCondition
  refine ⟨fun s => cond_holds_eq s.flags, fun _ _ => rfl, fun i cc nn hi => ⟨by rw [encode, hi]; rfl, fun s => ?jp⟩,
    fun _ => rfl, fun _ _ => rfl, fun i cc e hi => ⟨by rw [encode, hi]; rfl, fun s => ?jr⟩, fun _ => rfl, rfl,
    fun _ => rfl, fun _ => rfl, fun _ _ => ⟨rfl, rfl⟩, rfl, fun _ => rfl, fun _ _ => ⟨rfl, rfl⟩⟩
  case jp =>
    rw [exec_of_kind hi, runKind, jumpAbsCond_eq]
    rfl
  case jr =>
    rw [exec_of_kind hi, runKind, jumpRelCond_eq]
    rfl

/-! ### Returns (R258 to R260) -/

/-- The state after a pop into pc, but for the report: the byte at sp is the low one, the byte at sp+1, read after it, the high
one (R165, R258). -/
def State.returned (s : State) : State :=
  { (s.noteRead s.sp).noteRead (s.sp + 1) with
    sp := s.sp + 2, pc := joinBytes ((s.noteRead s.sp).peek (s.sp + 1)) (s.peek s.sp) }

theorem popAndJump_eq (n : Nat) (s : State) : popAndJump n s = .next { s.returned with cycles := n } := by
  rw [popAndJump, pop16_eq]
  rfl

/-- RETI writes ime itself, not the delayed enable (R260). -/
theorem returnInterrupt_eq (s : State) :
    returnInterrupt s = .next { s.returned with ime := true, cycles := s.count .reti true } := by
  rw [returnInterrupt, returnFromInterrupt, pop16_eq]
  rfl

theorem returnCond_eq (cc : Cond) (s : State) :
    returnCond cc s = .next (if cc.holds s.flags then { s.returned with cycles := s.count (.retCond cc) true }
      else s.advance 1 (s.count (.retCond cc) false)) := by
  rw [returnCond, popAndJump_eq, apply_ite Host.Outcome.next]

/-- Settles O29: the three forms are one pop into pc; RETI writes ime besides, and a form not taken only advances pc. -/
theorem returnsPopTheReturnAddress : Obligations.ReturnsPopTheReturnAddress := by
  unfold Obligations.ReturnsPopTheReturnAddress
  refine ⟨fun s => ⟨popAndJump_eq _ s, returnInterrupt_eq s, fun i cc hi => ?cond⟩,
    fun i cc hi => by rw [encode, hi]; rfl, rfl, rfl, rfl, fun _ => ⟨rfl, rfl⟩, rfl⟩
  case cond =>
    rw [exec_of_kind hi, runKind, returnCond_eq]
    rfl

end Sys2Proof.Machine
end

section
/-! The system instructions (R270 to R274) and the delayed enable (R342): a step that fetches ends with the flip, which looks at
what the instruction left of `ime_scheduled`; EI sets it, DI clears it, no other instruction writes it. -/

namespace Sys2Proof.Machine

open Sys2Proof.Claims

/-! ### What each instruction answers -/

theorem exec_nop (s : State) : exec .nop s = .next { s with pc := s.pc + 1, cycles := s.count .nop true } := rfl

theorem exec_halt (s : State) :
    exec .halt s = .next { s with halted := true, pc := s.pc + 1, cycles := s.count .halt true } := rfl

theorem exec_stop (pad : Byte) (s : State) :
    exec (.stop pad) s = .next { s with stopped := true, pc := s.pc + 2, cycles := s.count (.stop 0) true } := rfl

theorem exec_di (s : State) :
    exec .di s = .next { s with ime := false, imeScheduled := false, pc := s.pc + 1, cycles := s.count .di true } := rfl

theorem exec_ei (s : State) :
    exec .ei s = .next { s with imeScheduled := true, pc := s.pc + 1, cycles := s.count .ei true } := rfl

/-- Settles O30: each instruction is one update and the advance of pc; the words and the counts are those of the tables. -/
theorem systemInstructions : Obligations.SystemInstructions := by
  unfold Obligations.SystemInstructions
  exact ⟨fun s => ⟨exec_nop s, exec_halt s, fun pad => exec_stop pad s, exec_di s, exec_ei s⟩,
    rfl, rfl, fun _ => rfl, rfl, rfl, rfl, rfl, rfl, rfl, rfl⟩

/-- An enable that is scheduled stays so through every instruction but DI (R273). -/
theorem imeScheduled_of_exec {i : Instr} {s t : State} (h : exec i s = .next t) (hi : i ≠ .di)
    (hs : s.imeScheduled = true) : t.imeScheduled = true := by
  by_cases hei : i = .ei
  · rw [hei, exec_ei] at h
    cases h
    rfl
  · have hkeep : t.imeScheduled = s.imeScheduled := (regFrame_of_exec h).imeScheduled
      (fun hk => hi (eq_di_of_kind (kind_of_effKind hk rfl))) (fun hk => hei (eq_ei_of_kind (kind_of_effKind hk rfl)))
    rw [hkeep, hs]

/-! ### What is fetched -/

theorem decodeInstr_eq_di_iff (op b1 b2 : Byte) : decodeInstr op b1 b2 = .di ↔ op = 0xF3 := by
  constructor
  · intro h
    have hbytes := encode_decodeInstr op b1 b2
    rw [h] at hbytes
    obtain hl | hl | hl := instrLength_cases op <;> rw [hl] at hbytes <;> cases hbytes
    rfl
  · rintro rfl
    rfl

theorem decodeInstr_ei (b1 b2 : Byte) : decodeInstr 0xFB b1 b2 = .ei := rfl

theorem exists_fetch_eq_decodeInstr (s : State) : ∃ b1 b2, (fetch s).1 = decodeInstr (s.peek s.pc) b1 b2 := by
  obtain ⟨-, hdecoded, -⟩ := lengthIsFixedByTheOpcode
  exact hdecoded s

/-! The fetch only reads: it leaves the execution state. -/

@[simp] theorem fetch_ime (s : State) : (fetch s).2.ime = s.ime := by
  simp only [fetch, readByte]
  split <;> simp

@[simp] theorem fetch_imeScheduled (s : State) : (fetch s).2.imeScheduled = s.imeScheduled := by
  simp only [fetch, readByte]
  split <;> simp

@[simp] theorem fetch_fault (s : State) : (fetch s).2.fault = s.fault := by
  simp only [fetch, readByte]
  split <;> simp

/-! ### How a step that fetches ends -/

/-- Neither the flip nor step 5 writes the latch (R342, R351). -/
@[simp] theorem completed_fault (s u : State) : (completed s u).fault = u.fault := by
  unfold completed
  split <;> rfl

theorem completed_of_fault_eq_none {u : State} (s : State) (h : u.fault = none) :
    completed s u = settle s (flipped s u) := if_neg (by simp [h])

/-- A step that fetches is the instruction decoded from the byte at pc, and what follows it (R340). -/
theorem exists_exec_of_step {s t : State} (hf : Fetching s) (h : step s = .next t) :
    ∃ b1 b2 u, exec (decodeInstr (s.peek s.pc) b1 b2) (fetch (atFetch s)).2 = .next u ∧ t = completed s u := by
  obtain ⟨b1, b2, hfetch⟩ := exists_fetch_eq_decodeInstr (atFetch s)
  obtain ⟨u, hexec⟩ := exists_exec_eq_next (fetch (atFetch s)).1 (fetch (atFetch s)).2
  refine ⟨b1, b2, u, by rw [← hexec, hfetch]; rfl, ?_⟩
  rw [step_of_fetching hf, hexec, afterInstr, ← apply_ite] at h
  cases h
  rfl

/-- With ime clear and the halt over, nothing is dispatched and the engine does not idle (R340). -/
theorem fetching_of_running {s : State} (h : Running s) (hime : s.ime = false) (hhalted : s.halted = false) : Fetching s :=
  ⟨h, by simp [hime], by simp [hhalted]⟩

/-! ### The delayed enable -/

/-- The step of EI itself flips nothing: the flip asks for an enable scheduled before the step (R342). -/
theorem step_ei {s t : State} (hf : Fetching s) (hime : s.ime = false) (hsched : s.imeScheduled = false)
    (hop : s.peek s.pc = 0xFB) (h : step s = .next t) : t.ime = false ∧ t.imeScheduled = true := by
  obtain ⟨b1, b2, u, hexec, rfl⟩ := exists_exec_of_step hf h
  rw [hop, decodeInstr_ei, exec_ei] at hexec
  cases hexec
  rw [completed_of_fault_eq_none s (by simpa [atFetch] using hf.1.1)]
  simp [settle, flipped, atFetch, hime, hsched]

/-- The flip at the end of a step that began with an enable scheduled (R342). -/
theorem flipped_of_imeScheduled {s : State} (u : State) (hsched : s.imeScheduled = true) :
    (flipped s u).ime = (u.ime || u.imeScheduled) ∧ (flipped s u).imeScheduled = false := by
  simp [flipped, hsched]

/-- The step after that of EI ends with the enable taken, unless its instruction was DI (R273, R342). -/
theorem step_scheduled {s t : State} (hf : Fetching s) (hsched : s.imeScheduled = true) (h : step s = .next t)
    (hfault : t.fault = none) : t.imeScheduled = false ∧ (t.ime = true ↔ s.peek s.pc ≠ 0xF3) := by
  obtain ⟨b1, b2, u, hexec, rfl⟩ := exists_exec_of_step hf h
  rw [completed_fault] at hfault
  rw [completed_of_fault_eq_none s hfault]
  obtain ⟨hflip, hclear⟩ := flipped_of_imeScheduled u hsched
  refine ⟨hclear, ?_⟩
  show (flipped s u).ime = true ↔ _
  rw [hflip, Ne, ← decodeInstr_eq_di_iff _ b1 b2]
  by_cases hdi : decodeInstr (s.peek s.pc) b1 b2 = .di
  · rw [hdi, exec_di] at hexec
    cases hexec
    simp [hdi]
  · have hkept : u.imeScheduled = true := imeScheduled_of_exec hexec hdi (by simpa [atFetch] using hsched)
    simp [hdi, hkept]

/-- Settles O36: EI is seen by the flip of the next step only, which takes it unless DI has cleared it. -/
theorem enableTakesEffectAfterTheNextStep : Obligations.EnableTakesEffectAfterTheNextStep := by
  unfold Obligations.EnableTakesEffectAfterTheNextStep
  exact ⟨fun _ _ => step_ei, fun _ _ hrun hime hhalted => step_scheduled (fetching_of_running hrun hime hhalted)⟩

end Sys2Proof.Machine
end

section
/-! The PPU's time (R305 to R312, R319): what no transition reads, the step of `n` cycles as either no transition or one and
the rest of the cycles, and from these two laws the transitions at their exact counts, the additivity of the step and the
timeline of a frame. -/

namespace Sys2Proof.Machine

open Sys2Proof.Claims

/-! ### A transition reads neither the counter nor the derived views -/

/-- The PPU with the two derived views and the counter replaced. -/
def Ppu.holding (p : Ppu) (tiles : Cells TileRow) (objects : Cells ObjectEntry) (n : Nat) : Ppu :=
  { p with tiles := tiles, objects := objects, cycles := n }

/-- The PPU with the counter replaced. -/
def Ppu.withCounter (p : Ppu) (n : Nat) : Ppu := { p with cycles := n }

@[simp] theorem Ppu.withCounter_cycles (p : Ppu) (n : Nat) : (p.withCounter n).cycles = n := rfl
@[simp] theorem Ppu.withCounter_mode (p : Ppu) (n : Nat) : (p.withCounter n).mode = p.mode := rfl
@[simp] theorem Ppu.withCounter_withCounter (p : Ppu) (m n : Nat) :
    (p.withCounter m).withCounter n = p.withCounter n := rfl

theorem Ppu.modeEnd_holding (p : Ppu) (ts : Cells TileRow) (os : Cells ObjectEntry) (n : Nat) :
    (p.holding ts os n).modeEnd = (p.modeEnd.1.holding ts os n, p.modeEnd.2) := by
  unfold Ppu.modeEnd
  dsimp only [Ppu.holding]
  cases p.mode with
  | oamScan => rfl
  | pixelTransfer => rfl
  | hBlank => by_cases h : p.ly + 1 = 144 <;> simp only [h, if_true, if_false] <;> rfl
  | vBlank => by_cases h : p.ly + 1 > 153 <;> simp only [h, if_true, if_false] <;> rfl

theorem Ppu.modeEnd_withCounter (p : Ppu) (n : Nat) :
    (p.withCounter n).modeEnd = (p.modeEnd.1.withCounter n, p.modeEnd.2) := by
  have h := p.modeEnd_holding p.tiles p.objects n
  have hviews : p.modeEnd.1.holding p.tiles p.objects n = p.modeEnd.1.withCounter n := by
    rw [p.modeEnd_frame]
    rfl
  rwa [hviews] at h

/-! ### The four transitions (R307 to R310) -/

section
variable {p : Ppu}

theorem Ppu.modeEnd_oamScan (h : p.mode = .oamScan) : p.modeEnd = ({ p with mode := .pixelTransfer }, .none) := by
  rw [Ppu.modeEnd, h]

theorem Ppu.modeEnd_pixelTransfer (h : p.mode = .pixelTransfer) :
    p.modeEnd = ({ p with mode := .hBlank }, lcdIf p.selHblank) := by
  rw [Ppu.modeEnd, h]

/-- Whether LY at line `n` makes an LCD request (R311). -/
def Ppu.hits (p : Ppu) (n : Nat) : Bool := p.selLyc && decide (n = p.lyc.toNat)

theorem Ppu.lycCheck_eq (p : Ppu) : p.lycCheck = lcdIf (p.hits p.ly.toNat) := by
  have hbeq : (p.ly == p.lyc) = decide (p.ly.toNat = p.lyc.toNat) := byte_beq _ _
  rw [Ppu.lycCheck, Ppu.hits, hbeq, Bool.and_comm]

theorem ofNat_ly_toNat {n : Nat} (h : n ≤ 153) : (BitVec.ofNat 8 n : Byte).toNat = n := by
  rw [BitVec.toNat_ofNat]
  omega

theorem Ppu.modeEnd_hBlank {n : Nat} (h : p.mode = .hBlank) (hly : p.ly.toNat + 1 = n) (hn : n < 144) :
    p.modeEnd = ({ p with ly := BitVec.ofNat 8 n, mode := .oamScan }, (lcdIf p.selOam).union (lcdIf (p.hits n))) := by
  have hnext : p.ly + 1 = BitVec.ofNat 8 n := by bv_omega
  have hne : ¬(BitVec.ofNat 8 n : Byte) = 144 := by bv_omega
  rw [Ppu.modeEnd, h]
  dsimp only
  rw [hnext, if_neg hne, Ppu.lycCheck_eq]
  dsimp only
  rw [ofNat_ly_toNat (by omega)]
  rfl

theorem Ppu.modeEnd_hBlank_last (h : p.mode = .hBlank) (hly : p.ly.toNat = 143) :
    p.modeEnd = ({ p with ly := 144, mode := .vBlank },
      (InterruptRequest.vblank.union (lcdIf p.selVblank)).union (lcdIf (p.hits 144))) := by
  have hnext : p.ly + 1 = 144 := by bv_omega
  rw [Ppu.modeEnd, h]
  dsimp only
  rw [hnext, if_pos rfl, Ppu.lycCheck_eq]
  rfl

theorem Ppu.modeEnd_vBlank {n : Nat} (h : p.mode = .vBlank) (hly : p.ly.toNat + 1 = n) (hn : n ≤ 153) :
    p.modeEnd = ({ p with ly := BitVec.ofNat 8 n }, lcdIf (p.hits n)) := by
  have hnext : p.ly + 1 = BitVec.ofNat 8 n := by bv_omega
  have hle : ¬(BitVec.ofNat 8 n : Byte) > 153 := by bv_omega
  rw [Ppu.modeEnd, h]
  dsimp only
  rw [hnext, if_neg hle, Ppu.lycCheck_eq]
  dsimp only
  rw [ofNat_ly_toNat hn]
  rfl

theorem Ppu.modeEnd_vBlank_last (h : p.mode = .vBlank) (hly : p.ly.toNat = 153) :
    p.modeEnd = ({ p with ly := 0, mode := .oamScan }, (lcdIf p.selOam).union (lcdIf (p.hits 0))) := by
  have hnext : p.ly + 1 = 154 := by bv_omega
  rw [Ppu.modeEnd, h]
  dsimp only
  rw [hnext, if_pos (by decide), Ppu.lycCheck_eq]
  rfl

end

/-! ### The two laws of the step (R306) -/

/-- Within its mode the PPU counts and does nothing else. -/
theorem Ppu.step_within {p : Ppu} {n : Nat} (h : p.cycles + n < p.mode.duration) :
    p.step n = (p.withCounter (p.cycles + n), .none) :=
  Ppu.loop_within (p := p.withCounter (p.cycles + n)) h

/-- Past the end of its mode the PPU makes that mode's transition and goes on with the cycles left over. -/
theorem Ppu.step_past {p : Ppu} {n m : Nat} (h : p.cycles + n = p.mode.duration + m) :
    p.step n = (((p.modeEnd.1.withCounter 0).step m).1, p.modeEnd.2.union ((p.modeEnd.1.withCounter 0).step m).2) := by
  have hd := PpuMode.duration_ge p.mode
  have hrest : (p.withCounter (p.cycles + n - p.mode.duration)).modeEnd = (p.modeEnd.1.withCounter m, p.modeEnd.2) := by
    rw [Ppu.modeEnd_withCounter, show p.cycles + n - p.mode.duration = m by omega]
  calc p.step n
    _ = Ppu.loop ((p.cycles + n) / 80) (p.modeEnd.1.withCounter m) p.modeEnd.2 := by
      have hloop := Ppu.loop_transition (fuel := (p.cycles + n) / 80) (p := p.withCounter (p.cycles + n)) (r := .none)
        (by simp; omega)
      rw [show ({ p.withCounter (p.cycles + n) with
        cycles := (p.withCounter (p.cycles + n)).cycles - (p.withCounter (p.cycles + n)).mode.duration } : Ppu) =
        p.withCounter (p.cycles + n - p.mode.duration) from rfl, hrest] at hloop
      rw [InterruptRequest.none_union] at hloop
      exact hloop
    _ = Ppu.loop ((0 + m) / 80 + 1) (p.modeEnd.1.withCounter m) p.modeEnd.2 :=
      Ppu.loop_fuel _ _ _ _ (by simp; omega) (by simp; omega)
    _ = _ := by
      rw [Ppu.loop_request]
      simp only [Ppu.step, Ppu.withCounter_cycles, Nat.zero_add]
      rfl

theorem Ppu.step_zero {p : Ppu} (h : p.CounterOk) : p.step 0 = (p, .none) := Ppu.step_within (n := 0) h

/-- At the exact end of its mode the PPU makes that mode's transition and the counter starts again. -/
theorem Ppu.step_end {p : Ppu} {n : Nat} (h : p.cycles + n = p.mode.duration) :
    p.step n = (p.modeEnd.1.withCounter 0, p.modeEnd.2) := by
  have hok : (p.modeEnd.1.withCounter 0).CounterOk := by
    have hd := PpuMode.duration_ge p.modeEnd.1.mode
    show 0 < p.modeEnd.1.mode.duration
    omega
  rw [Ppu.step_past (m := 0) h, Ppu.step_zero hok, InterruptRequest.union_none]

/-- What holds of a step within a mode, and of a step past its end if of the rest of it, holds of every step: each transition
takes at least 80 cycles off (R305). -/
theorem Ppu.step_induction {motive : Ppu → Nat → Prop}
    (within : ∀ p n, p.cycles + n < p.mode.duration → motive p n)
    (past : ∀ p n m, p.cycles + n = p.mode.duration + m → motive (p.modeEnd.1.withCounter 0) m → motive p n)
    (p : Ppu) (n : Nat) : motive p n := by
  induction hc : p.cycles + n using Nat.strong_induction_on generalizing p n with
  | _ c ih =>
    by_cases hd : p.cycles + n < p.mode.duration
    · exact within p n hd
    · have h80 := PpuMode.duration_ge p.mode
      refine past p n (p.cycles + n - p.mode.duration) (by omega) (ih _ ?_ _ _ rfl)
      rw [Ppu.withCounter_cycles]
      omega

/-- A step of `m` and then of `n` is a step of `m + n`. -/
theorem Ppu.step_add (p : Ppu) (m n : Nat) :
    p.step (m + n) = (((p.step m).1.step n).1, (p.step m).2.union ((p.step m).1.step n).2) := by
  induction p, m using Ppu.step_induction with
  | within p m hd =>
    rw [Ppu.step_within hd]
    simp [Ppu.step, Ppu.withCounter, Nat.add_assoc]
  | past p m k hk ih =>
    rw [Ppu.step_past hk, Ppu.step_past (show p.cycles + (m + n) = p.mode.duration + (k + n) by omega), ih,
      InterruptRequest.union_assoc]

/-- Settles O47: the second law of the step, iterated. -/
theorem ppuStepIsAdditive : Obligations.PpuStepIsAdditive := by
  unfold Obligations.PpuStepIsAdditive
  exact ⟨fun p m n => by rw [p.step_add]; exact ⟨rfl, rfl⟩, fun _ => Ppu.step_zero⟩

/-! ### The end of OAMScan (R307) -/

/-- Feeding counts one by one is feeding their sum. -/
theorem fed_eq_step {p : Ppu} (h : p.CounterOk) (counts : List Nat) : fed p counts = (p.step counts.sum).1 := by
  induction counts generalizing p with
  | nil => rw [List.sum_nil, Ppu.step_zero h]; rfl
  | cons n counts ih =>
    rw [List.sum_cons, Ppu.step_add]
    exact ih (Ppu.counterOk_step p n)

/-- Settles O45: the count reached decides the mode, whatever calls it came in. -/
theorem oamScanEndsOnce : Obligations.OamScanEndsOnce := by
  unfold Obligations.OamScanEndsOnce
  intro p counts hmode hcount T q
  have hdur : p.mode.duration = 80 := by rw [hmode]; rfl
  have hq : q = (p.step counts.sum).1 := fed_eq_step (by rw [Ppu.CounterOk, hdur]; exact hcount) counts
  have hend := Ppu.modeEnd_oamScan hmode
  have hbefore (hT : T < 80) : q = p.withCounter T := by
    rw [hq, Ppu.step_within (by rw [hdur]; exact hT)]
  refine ⟨fun hT => ?before, fun n hT hn hn' => ?call, fun hT hT' => ?after⟩
  case before => rw [hbefore hT]; exact hmode
  case call =>
    have hpast : q.cycles + n = q.mode.duration + (T + n - 80) := by
      rw [hbefore hT]
      show T + n = p.mode.duration + _
      omega
    have hwithin : (q.modeEnd.1.withCounter 0).cycles + (T + n - 80) < (q.modeEnd.1.withCounter 0).mode.duration := by
      rw [hbefore hT, Ppu.modeEnd_withCounter, hend]
      show 0 + (T + n - 80) < 172
      omega
    rw [Ppu.step_past hpast, Ppu.step_within hwithin, hbefore hT, Ppu.modeEnd_withCounter, hend]
    exact ⟨rfl, rfl⟩
  case after =>
    rw [hq, Ppu.step_past (m := T - 80) (by rw [hdur]; omega), hend]
    by_cases h : T < 252
    · rw [Ppu.step_within (by show 0 + (T - 80) < 172; omega)]
      show PpuMode.pixelTransfer ≠ .oamScan
      decide
    · rw [Ppu.step_past (m := T - 252) (by show 0 + (T - 80) = 172 + (T - 252); omega),
        Ppu.step_within (by show 0 + (T - 252) < 204; omega)]
      show PpuMode.hBlank ≠ .oamScan
      decide

/-- The step reads no view (R290, R316). -/
theorem Ppu.step_withViews (p : Ppu) (n : Nat) (ts : Cells TileRow) (os : Cells ObjectEntry) :
    Ppu.step { p with tiles := ts, objects := os } n =
      ({ (p.step n).1 with tiles := ts, objects := os }, (p.step n).2) := by
  induction p, n using Ppu.step_induction with
  | within p n hd =>
    rw [Ppu.step_within hd, Ppu.step_within (p := { p with tiles := ts, objects := os }) hd]
    rfl
  | past p n m hm ih =>
    have hend : Ppu.modeEnd { p with tiles := ts, objects := os } = _ := p.modeEnd_holding ts os p.cycles
    rw [Ppu.step_past hm, Ppu.step_past (p := { p with tiles := ts, objects := os }) hm, hend]
    exact congrArg (fun out => (out.1, p.modeEnd.2.union out.2)) ih

/-! ### The transitions at their exact counts (R307 to R312) -/

theorem mask_union (a b : InterruptRequest) : (a.union b).mask = a.mask ||| b.mask := by
  cases a <;> cases b <;> rfl

theorem mask_lcdIf (c : Bool) : (lcdIf c).mask = if c then 0b00010 else 0 := by cases c <;> rfl

/-- Settles O46: the step to the end of a mode is that mode's transition, whose request is a union of conditional requests. -/
theorem modeEnds : Obligations.ModeEnds := by
  unfold Obligations.ModeEnds
  refine ⟨⟨rfl, rfl, rfl, rfl⟩, ⟨rfl, rfl, rfl, rfl, mask_union⟩, fun p n => Ppu.step_within, ?_⟩
  intro p n _ hn hly lcd next hit
  have hmask (c : Bool) : (lcdIf c).mask = lcd c := mask_lcdIf c
  rw [Ppu.step_end hn]
  cases hm : p.mode with
  | oamScan => rw [Ppu.modeEnd_oamScan hm]; exact ⟨rfl, rfl⟩
  | pixelTransfer => rw [Ppu.modeEnd_pixelTransfer hm]; exact ⟨rfl, hmask _⟩
  | hBlank =>
    have hlt : p.ly.toNat < 144 := by simpa [Ppu.LyOk, hm] using hly
    dsimp only
    split
    case isTrue h144 =>
      rw [Ppu.modeEnd_hBlank_last hm (by omega)]
      exact ⟨rfl, by simp only [mask_union, hmask]; rfl⟩
    case isFalse h144 =>
      rw [Ppu.modeEnd_hBlank hm rfl (by omega)]
      exact ⟨rfl, by simp only [mask_union, hmask]; rfl⟩
  | vBlank =>
    obtain ⟨-, hle⟩ : 144 ≤ p.ly.toNat ∧ p.ly.toNat ≤ 153 := by simpa [Ppu.LyOk, hm] using hly
    dsimp only
    split
    case isTrue h154 =>
      rw [Ppu.modeEnd_vBlank_last hm (by omega)]
      exact ⟨rfl, by simp only [mask_union, hmask]; rfl⟩
    case isFalse h154 =>
      rw [Ppu.modeEnd_vBlank hm rfl (by omega)]
      exact ⟨by rw [← hm]; rfl, hmask _⟩

/-! ### The timeline of a frame (R319) -/

theorem lcdIf_union (a b : Bool) : (lcdIf a).union (lcdIf b) = lcdIf (a || b) := by cases a <;> cases b <;> rfl

theorem vblank_union_lcdIf (c : Bool) : InterruptRequest.vblank.union (lcdIf c) = if c then .both else .vblank := by
  cases c <;> rfl

theorem lcdIf_union_vblank (a b c : Bool) :
    (lcdIf a).union ((InterruptRequest.vblank.union (lcdIf b)).union (lcdIf c)) =
      InterruptRequest.vblank.union (lcdIf (a || (b || c))) := by
  cases a <;> cases b <;> cases c <;> rfl

/-- The PPU at the start of line `n`, in mode `m`. -/
def Ppu.atLine (p : Ppu) (m : PpuMode) (n : Nat) : Ppu := { p with mode := m, cycles := 0, ly := BitVec.ofNat 8 n }

/-- Whether one of the lines from 1 to `n` makes an LCD request. -/
def Ppu.hitsUpTo (p : Ppu) (n : Nat) : Bool := p.selLyc && decide (1 ≤ p.lyc.toNat ∧ p.lyc.toNat ≤ n)

theorem Ppu.hitsUpTo_zero (p : Ppu) : p.hitsUpTo 0 = false := by
  rw [Ppu.hitsUpTo, decide_eq_false (by omega), Bool.and_false]

theorem Ppu.hitsUpTo_succ (p : Ppu) (n : Nat) : (p.hitsUpTo n || p.hits (n + 1)) = p.hitsUpTo (n + 1) := by
  rw [Ppu.hitsUpTo, Ppu.hits, ← Bool.and_or_distrib_left, Ppu.hitsUpTo, ← Bool.decide_or]
  congr 2
  exact propext (by omega)

section
variable (p : Ppu)

/-- The first 252 cycles of a line pass OAMScan and PixelTransfer (R307, R308). -/
theorem Ppu.step_toHBlank (n : Nat) :
    (p.atLine .oamScan n).step 252 = (p.atLine .hBlank n, lcdIf p.selHblank) := by
  rw [show 252 = 80 + 172 from rfl, Ppu.step_add, Ppu.step_end (n := 80) rfl, Ppu.modeEnd_oamScan rfl,
    Ppu.step_end (n := 172) rfl, Ppu.modeEnd_pixelTransfer rfl]
  exact Prod.ext rfl (InterruptRequest.none_union _)

theorem Ppu.step_visibleLine {n : Nat} (hn : n < 143) :
    (p.atLine .oamScan n).step 456 = (p.atLine .oamScan (n + 1), lcdIf (p.selHblank || (p.selOam || p.hits (n + 1)))) := by
  have hly : (p.atLine .hBlank n).ly.toNat + 1 = n + 1 := congrArg (· + 1) (ofNat_ly_toNat (by omega))
  rw [show 456 = 252 + 204 from rfl, Ppu.step_add, Ppu.step_toHBlank, Ppu.step_end (n := 204) rfl,
    Ppu.modeEnd_hBlank rfl hly (by omega)]
  exact Prod.ext rfl (by simp only [lcdIf_union]; rfl)

theorem Ppu.step_lastVisibleLine :
    (p.atLine .oamScan 143).step 456 =
      (p.atLine .vBlank 144, InterruptRequest.vblank.union (lcdIf (p.selHblank || (p.selVblank || p.hits 144)))) := by
  rw [show 456 = 252 + 204 from rfl, Ppu.step_add, Ppu.step_toHBlank, Ppu.step_end (n := 204) rfl,
    Ppu.modeEnd_hBlank_last rfl rfl]
  exact Prod.ext rfl (lcdIf_union_vblank _ _ _)

theorem Ppu.step_vBlankLine {n : Nat} (hn : n < 153) :
    (p.atLine .vBlank n).step 456 = (p.atLine .vBlank (n + 1), lcdIf (p.hits (n + 1))) := by
  have hly : (p.atLine .vBlank n).ly.toNat + 1 = n + 1 := congrArg (· + 1) (ofNat_ly_toNat (by omega))
  rw [Ppu.step_end (n := 456) rfl, Ppu.modeEnd_vBlank rfl hly (by omega)]
  rfl

theorem Ppu.step_lastVBlankLine :
    (p.atLine .vBlank 153).step 456 = (p.atLine .oamScan 0, lcdIf (p.selOam || p.hits 0)) := by
  rw [Ppu.step_end (n := 456) rfl, Ppu.modeEnd_vBlank_last rfl rfl, lcdIf_union]
  rfl

/-- The visible lines: after line 0 every select bit has had its first cause, and LYC one line more each time. -/
theorem Ppu.step_visibleLines {n : Nat} (hn : n < 143) :
    (p.atLine .oamScan 0).step (456 * (n + 1)) =
      (p.atLine .oamScan (n + 1), lcdIf (p.selHblank || p.selOam || p.hitsUpTo (n + 1))) := by
  induction n with
  | zero =>
    rw [Nat.zero_add, Nat.mul_one, Ppu.step_visibleLine p (by omega), ← Ppu.hitsUpTo_succ p 0, Ppu.hitsUpTo_zero,
      Bool.false_or, Bool.or_assoc]
  | succ n ih =>
    rw [Nat.mul_succ, Ppu.step_add, ih (by omega), Ppu.step_visibleLine p hn, lcdIf_union, ← Ppu.hitsUpTo_succ p (n + 1)]
    cases p.selHblank <;> cases p.selOam <;> simp

/-- The VBlank lines, ten of them; every cause but LY 0 has been met (R309, R310). -/
theorem Ppu.step_vBlankLines {k : Nat} (hk : k < 10) :
    (p.atLine .oamScan 0).step (65664 + 456 * k) =
      (p.atLine .vBlank (144 + k), InterruptRequest.vblank.union
        (lcdIf (p.selHblank || p.selVblank || p.selOam || p.hitsUpTo (144 + k)))) := by
  induction k with
  | zero =>
    rw [show 65664 + 456 * 0 = 456 * (142 + 1) + 456 from rfl, Ppu.step_add, Ppu.step_visibleLines p (by omega),
      Ppu.step_lastVisibleLine, ← Ppu.hitsUpTo_succ p 143, ← InterruptRequest.union_assoc,
      InterruptRequest.union_comm _ .vblank, InterruptRequest.union_assoc, lcdIf_union]
    cases p.selHblank <;> cases p.selVblank <;> cases p.selOam <;> simp
  | succ k ih =>
    rw [Nat.mul_succ, ← Nat.add_assoc, Ppu.step_add, ih (by omega), Ppu.step_vBlankLine p (by omega),
      InterruptRequest.union_assoc, lcdIf_union, Bool.or_assoc, Ppu.hitsUpTo_succ]
    rfl

theorem Ppu.hitsUpTo_or_hits_zero (n : Nat) :
    (p.hitsUpTo n || p.hits 0) = (p.selLyc && decide (p.lyc.toNat < n + 1)) := by
  rw [Ppu.hitsUpTo, Ppu.hits, ← Bool.and_or_distrib_left, ← Bool.decide_or]
  congr 2
  exact propext (by omega)

/-- After a frame the PPU is back at the start of line 0 (R319). -/
theorem Ppu.step_wholeFrame :
    (p.atLine .oamScan 0).step 70224 =
      (p.atLine .oamScan 0, InterruptRequest.vblank.union
        (lcdIf (p.selHblank || p.selVblank || p.selOam || (p.selLyc && decide (p.lyc.toNat < 154))))) := by
  rw [show 70224 = 65664 + 456 * 9 + 456 from rfl, Ppu.step_add, Ppu.step_vBlankLines p (by omega), Ppu.step_lastVBlankLine,
    ← Ppu.hitsUpTo_or_hits_zero p 153, InterruptRequest.union_assoc, lcdIf_union]
  cases p.selHblank <;> cases p.selVblank <;> cases p.selOam <;> simp

end

/-- Settles O48: line after line by additivity, the requests of a frame gathered in their order. -/
theorem frameTimeline : Obligations.FrameTimeline := by
  unfold Obligations.FrameTimeline
  intro p hmode hcycles hly
  have hp : p.atLine .oamScan 0 = p := by
    cases p
    dsimp only at hmode hcycles hly
    subst hmode hcycles hly
    rfl
  rw [← hp]
  refine ⟨?count79, ?count80, ?count252, fun n hn => ?visible, fun k hk => ?vBlank, ?frame, ?request⟩
  case count79 => rw [Ppu.step_within (show 0 + 79 < 80 by decide)]; rfl
  case count80 => rw [Ppu.step_end (n := 80) rfl, Ppu.modeEnd_oamScan rfl]; rfl
  case count252 => rw [Ppu.step_toHBlank]; rfl
  case visible =>
    cases n with
    | zero => rw [Nat.mul_zero, Ppu.step_zero (p := p.atLine .oamScan 0) (show 0 < 80 by decide)]; rfl
    | succ n => rw [Ppu.step_visibleLines p (by omega)]; rfl
  case vBlank => rw [Ppu.step_vBlankLines p hk]; rfl
  case frame => rw [Ppu.step_wholeFrame]
  case request => rw [Ppu.step_wholeFrame]; exact vblank_union_lcdIf _

end Sys2Proof.Machine
end

section
/-! Two runs side by side (R290, R316, R367, R396). Everything of a state but the PPU, the parameters, `stopped` and the
report is equal in the two; what these four may differ in is a tolerance. Each update an instruction is made of keeps the
two states alike, and so does every instruction and every step. -/

namespace Sys2Proof.Machine

/-! ### What two runs may differ in -/

/-- How the PPUs, the parameters and `stopped` of two states may differ. -/
structure Tolerance where
  ppu : Ppu → Ppu → Prop
  cfg : Params → Params → Prop
  stopped : Bool → Bool → Prop

/-- What an instruction asks of a tolerance: the PPUs differ in their views at most and stay within it when the bus writes to
them, the parameters differ in their cycle tables at most, and STOP may be executed in both. -/
structure Tolerance.Sound (T : Tolerance) : Prop where
  views : ∀ {p q}, T.ppu p q → ∃ tiles objects, q = { p with tiles := tiles, objects := objects }
  writeVram : ∀ {p q} i v, T.ppu p q → T.ppu (p.writeVram i v) (q.writeVram i v)
  writeOam : ∀ {p q} i v, T.ppu p q → T.ppu (p.writeOam i v) (q.writeOam i v)
  writeLcdc : ∀ {p q} v, T.ppu p q → T.ppu (p.writeLcdc v) (q.writeLcdc v)
  writeStat : ∀ {p q} v, T.ppu p q → T.ppu (p.writeStat v) (q.writeStat v)
  writeLyc : ∀ {p q} v, T.ppu p q → T.ppu (p.writeLyc v) (q.writeLyc v)
  table : ∀ {c d}, T.cfg c d → ∃ cycles, d = { c with cycles := cycles }
  stop : T.stopped true true

/-- The state `s` with the four fields that two runs may differ in replaced. -/
def State.twin (s : State) (p : Ppu) (c : Params) (b : Bool) (n : Nat) : State :=
  { s with ppu := p, cfg := c, stopped := b, cycles := n }

/-- Two states within a tolerance of each other, with the latch `f`; the report may be any. -/
structure Alike (T : Tolerance) (f : Option Fatal) (s t : State) : Prop where
  twin : t = s.twin t.ppu t.cfg t.stopped t.cycles
  ppu : T.ppu s.ppu t.ppu
  cfg : T.cfg s.cfg t.cfg
  stopped : T.stopped s.stopped t.stopped
  latch : s.fault = f

/-- Two accesses that went the same way: both through, or both to the same fatal error, reporting nothing. -/
inductive AlikeAccess (T : Tolerance) (f : Option Fatal) : Access → Access → Prop
  | done {u v} : Alike T f u v → AlikeAccess T f (.done u) (.done v)
  | fatal {u v} (e : Fatal) : Alike T (some e) u v → u.cycles = 0 → v.cycles = 0 →
      AlikeAccess T f (.fatal u) (.fatal v)

/-- Two answers of one instruction from `s` and from `t`: each reports its own table's count for the same kind, or both raise
the same fatal error and report nothing. -/
inductive AlikeAnswer (T : Tolerance) (s t : State) : Result → Result → Prop
  | reported (k : Kind) (taken : Bool) {u v} : Alike T s.fault u v → u.cycles = s.count k taken →
      v.cycles = t.count k taken → AlikeAnswer T s t (.next u) (.next v)
  | fatal (e : Fatal) {u v} : Alike T (some e) u v → u.cycles = 0 → v.cycles = 0 → AlikeAnswer T s t (.next u) (.next v)

namespace Alike

section
variable {T : Tolerance} {f : Option Fatal} {s t : State}

theorem exists_twin (h : Alike T f s t) : ∃ p c b n, t = s.twin p c b n := ⟨_, _, _, _, h.twin⟩

theorem fault (h : Alike T f s t) : t.fault = s.fault := by rw [h.twin]; rfl

/-! ### Updates -/

/-- An update that commutes with the replacement of the four fields neither reads nor writes them. -/
theorem update (h : Alike T f s t) {u : State → State}
    (hu : ∀ (s : State) p c b n, u (s.twin p c b n) = (u s).twin p c b n) (hf : (u s).fault = f) :
    Alike T f (u s) (u t) := by
  have hs : u s = (u s).twin s.ppu s.cfg s.stopped s.cycles := hu s s.ppu s.cfg s.stopped s.cycles
  have ht : u t = (u s).twin t.ppu t.cfg t.stopped t.cycles := by rw [← hu, ← h.twin]
  rw [ht]
  refine ⟨rfl, ?_, ?_, ?_, hf⟩
  · rw [hs]; exact h.ppu
  · rw [hs]; exact h.cfg
  · rw [hs]; exact h.stopped

theorem report (h : Alike T f s t) (n m : Nat) : Alike T f { s with cycles := n } { t with cycles := m } :=
  ⟨by rw [h.twin]; rfl, h.ppu, h.cfg, h.stopped, h.latch⟩

theorem raise (h : Alike T f s t) (e : Fatal) : Alike T (some e) (s.raise e) (t.raise e) :=
  ⟨by rw [h.twin]; rfl, h.ppu, h.cfg, h.stopped, rfl⟩

theorem withPpu (h : Alike T f s t) {p q : Ppu} (hp : T.ppu p q) : Alike T f { s with ppu := p } { t with ppu := q } :=
  ⟨by rw [h.twin]; rfl, hp, h.cfg, h.stopped, h.latch⟩

theorem withStopped (h : Alike T f s t) {a b : Bool} (hb : T.stopped a b) :
    Alike T f { s with stopped := a } { t with stopped := b } :=
  ⟨by rw [h.twin]; rfl, h.ppu, h.cfg, hb, h.latch⟩

theorem setReg (h : Alike T f s t) (i : Reg8) (v : Byte) : Alike T f (s.setReg i v) (t.setReg i v) :=
  h.update (u := fun s => s.setReg i v) (fun _ _ _ _ _ => rfl) h.latch

theorem setFlags (h : Alike T f s t) (g : Flags) : Alike T f (s.setFlags g) (t.setFlags g) :=
  h.update (u := fun s => s.setFlags g) (fun _ _ _ _ _ => rfl) h.latch

theorem setHL (h : Alike T f s t) (v : Word) : Alike T f (s.setHL v) (t.setHL v) :=
  h.update (u := fun s => s.setHL v) (fun _ _ _ _ _ => rfl) h.latch

theorem setSp (h : Alike T f s t) (v : Word) : Alike T f { s with sp := v } { t with sp := v } :=
  h.update (u := fun s => { s with sp := v }) (fun _ _ _ _ _ => rfl) h.latch

theorem setPair (h : Alike T f s t) (p : Pair) (v : Word) : Alike T f (s.setPair p v) (t.setPair p v) :=
  h.update (u := fun s => s.setPair p v) (fun _ _ _ _ _ => by cases p <;> rfl) (by simpa using h.latch)

theorem setStackPair (h : Alike T f s t) (q : StackPair) (v : Word) :
    Alike T f (s.setStackPair q v) (t.setStackPair q v) :=
  h.update (u := fun s => s.setStackPair q v) (fun _ _ _ _ _ => by cases q <;> rfl) (by simpa using h.latch)

theorem dropSp (h : Alike T f s t) : Alike T f { s with sp := s.sp - 2 } { t with sp := t.sp - 2 } :=
  h.update (u := fun s => { s with sp := s.sp - 2 }) (fun _ _ _ _ _ => rfl) h.latch

theorem advance (h : Alike T f s t) (len : Word) (n m : Nat) : Alike T f (s.advance len n) (t.advance len m) :=
  (h.update (u := fun s => { s with pc := s.pc + len }) (fun _ _ _ _ _ => rfl) h.latch).report n m

theorem jumpTo (h : Alike T f s t) (target : Word) (n m : Nat) : Alike T f (s.jumpTo target n) (t.jumpTo target m) :=
  (h.update (u := fun s => { s with pc := target }) (fun _ _ _ _ _ => rfl) h.latch).report n m

theorem setHalted (h : Alike T f s t) (b : Bool) : Alike T f { s with halted := b } { t with halted := b } :=
  h.update (u := fun s => { s with halted := b }) (fun _ _ _ _ _ => rfl) h.latch

theorem setIme (h : Alike T f s t) (b : Bool) : Alike T f { s with ime := b } { t with ime := b } :=
  h.update (u := fun s => { s with ime := b }) (fun _ _ _ _ _ => rfl) h.latch

theorem setImeScheduled (h : Alike T f s t) (b : Bool) :
    Alike T f { s with imeScheduled := b } { t with imeScheduled := b } :=
  h.update (u := fun s => { s with imeScheduled := b }) (fun _ _ _ _ _ => rfl) h.latch

theorem setIflags (h : Alike T f s t) {v w : IntSet} (hw : w = v) :
    Alike T f { s with iflags := v } { t with iflags := w } := by
  subst hw
  exact h.update (u := fun s => { s with iflags := w }) (fun _ _ _ _ _ => rfl) h.latch

/-! ### Reads (R60 to R75): no byte read depends on the views, the cycle table, `stopped` or the report -/

theorem noteRead (h : Alike T f s t) (a : Word) : Alike T f (s.noteRead a) (t.noteRead a) :=
  h.update (u := fun s => s.noteRead a)
    (fun s p c b n => by
      have ht : (s.twin p c b n).target a = s.target a := rfl
      simp only [State.noteRead, ht]
      split <;> rfl)
    (by simpa using h.latch)

theorem peek (hT : T.Sound) (h : Alike T f s t) (a : Word) : t.peek a = s.peek a := by
  obtain ⟨ts, os, hp⟩ := hT.views h.ppu
  obtain ⟨table, hc⟩ := hT.table h.cfg
  rw [h.twin, hp, hc]
  rfl

theorem readSrc (hT : T.Sound) (h : Alike T f s t) (v : Src8) :
    (readSrc v t).1 = (readSrc v s).1 ∧ Alike T f (readSrc v s).2 (readSrc v t).2 := by
  have hregs : t.regs = s.regs := by rw [h.twin]; rfl
  cases v with
  | reg r => exact ⟨congrArg (Regs.get · r) hregs, h⟩
  | atHL =>
    simp only [Machine.readSrc, readByte, State.hl, hregs]
    exact ⟨h.peek hT _, h.noteRead _⟩
  | imm n => exact ⟨rfl, h⟩

theorem readLoc (hT : T.Sound) (h : Alike T f s t) (d : Loc8) :
    (readLoc d t).1 = (readLoc d s).1 ∧ Alike T f (readLoc d s).2 (readLoc d t).2 := by
  cases d with
  | reg r => exact h.readSrc hT (.reg r)
  | atHL => exact h.readSrc hT .atHL

theorem pop16 (hT : T.Sound) (h : Alike T f s t) : (pop16 t).1 = (pop16 s).1 ∧ Alike T f (pop16 s).2 (pop16 t).2 := by
  have hsp : t.sp = s.sp := by rw [h.twin]; rfl
  simp only [pop16_eq, hsp, h.peek hT, (h.noteRead s.sp).peek hT]
  exact ⟨trivial, ((h.noteRead _).noteRead _).setSp _⟩

/-! ### Writes (R60 to R76, R164) -/

theorem written (hT : T.Sound) (h : Alike T f s t) (a : Word) (v : Byte) : Alike T f (s.written a v) (t.written a v) := by
  have ht : t.target a = s.target a := by rw [h.twin]; rfl
  simp only [State.written, ht]
  cases ha : s.target a with
  | vram i => exact h.withPpu (hT.writeVram i v h.ppu)
  | oam i => exact h.withPpu (hT.writeOam i v h.ppu)
  | lcdc => exact h.withPpu (hT.writeLcdc v h.ppu)
  | stat => exact h.withPpu (hT.writeStat v h.ppu)
  | lyc => exact h.withPpu (hT.writeLyc v h.ppu)
  | eram i => exact h.update (u := fun s => { s with eram := s.eram.write i v }) (fun _ _ _ _ _ => rfl) h.latch
  | wram i => exact h.update (u := fun s => { s with wram := s.wram.write i v }) (fun _ _ _ _ _ => rfl) h.latch
  | hram i => exact h.update (u := fun s => { s with hram := s.hram.write i v }) (fun _ _ _ _ _ => rfl) h.latch
  | ifReg => exact h.update (u := fun s => { s with iflags := v.extractLsb' 0 5 }) (fun _ _ _ _ _ => rfl) h.latch
  | ieReg => exact h.update (u := fun s => { s with ie := v.extractLsb' 0 5 }) (fun _ _ _ _ _ => rfl) h.latch
  | ioPort =>
    exact h.update (u := fun s => { s with ioLog := .write a v :: s.ioLog }) (fun _ _ _ _ _ => rfl) h.latch
  | bootOff =>
    dsimp only
    split
    · exact h
    · exact h.update (u := State.disableBootRom) (fun _ _ _ _ _ => rfl) h.latch
  | _ => exact h

theorem writeByte (hT : T.Sound) (h : Alike T f s t) (a : Word) (v : Byte) :
    AlikeAccess T f (writeByte a v s) (writeByte a v t) := by
  obtain ⟨table, hc⟩ := hT.table h.cfg
  have haccepts : t.accepts a = s.accepts a := by rw [h.twin, hc]; rfl
  have hfatal : t.writeFatal a = s.writeFatal a := by rw [h.twin]; rfl
  rw [writeByte_eq, writeByte_eq, haccepts, hfatal]
  split
  · exact .done (h.written hT a v)
  · exact .fatal _ (h.raise _) rfl rfl

theorem writeLoc (hT : T.Sound) (h : Alike T f s t) (d : Loc8) (v : Byte) :
    AlikeAccess T f (writeLoc d v s) (writeLoc d v t) := by
  cases d with
  | reg r => exact .done (h.setReg r v)
  | atHL =>
    have hhl : t.hl = s.hl := by rw [h.twin]; rfl
    simp only [Machine.writeLoc, hhl]
    exact h.writeByte hT _ _

end

end Alike

/-! ### Accesses and answers -/

section
variable {T : Tolerance} {s t : State}

theorem AlikeAccess.map {f : Option Fatal} {r q : Access} (h : AlikeAccess T f r q) {g k : State → State}
    (hg : ∀ u v, Alike T f u v → Alike T f (g u) (k v)) : AlikeAccess T f (r.map g) (q.map k) := by
  cases h with
  | done hu => exact .done (hg _ _ hu)
  | fatal e hu hn hm => exact .fatal e hu hn hm

theorem AlikeAccess.andThen {f : Option Fatal} {r q : Access} (h : AlikeAccess T f r q) {g k : State → Access}
    (hg : ∀ u v, Alike T f u v → AlikeAccess T f (g u) (k v)) : AlikeAccess T f (r.andThen g) (q.andThen k) := by
  cases h with
  | done hu => exact hg _ _ hu
  | fatal e hu hn hm => exact .fatal e hu hn hm

theorem Alike.writeTwo (hT : T.Sound) {f : Option Fatal} (h : Alike T f s t) (a b : Word) (v w : Byte) :
    AlikeAccess T f ((Machine.writeByte a v s).andThen (Machine.writeByte b w))
      ((Machine.writeByte a v t).andThen (Machine.writeByte b w)) :=
  (h.writeByte hT a v).andThen fun _ _ hu => hu.writeByte hT b w

theorem Alike.push16 (hT : T.Sound) {f : Option Fatal} (h : Alike T f s t) (v : Word) :
    AlikeAccess T f (push16 v s) (push16 v t) := by
  have hsp : t.sp = s.sp := by rw [h.twin]; rfl
  simp only [Machine.push16, hsp]
  exact (h.writeTwo hT _ _ _ _).map fun _ _ hu => hu.dropSp

/-- An access followed by an update that reports each side's count. -/
theorem AlikeAccess.answer {r q : Access} (h : AlikeAccess T s.fault r q) (k : Kind) (taken : Bool) {g g' : State → State}
    (hg : ∀ u v, Alike T s.fault u v → Alike T s.fault (g u) (g' v)) (hn : ∀ u, (g u).cycles = s.count k taken)
    (hm : ∀ v, (g' v).cycles = t.count k taken) : AlikeAnswer T s t (r.map g).result (q.map g').result := by
  cases h with
  | done hu => exact .reported k taken (hg _ _ hu) (hn _) (hm _)
  | fatal e hu h0 h0' => exact .fatal e hu h0 h0'

theorem AlikeAnswer.exists_alike {r q : Result} (h : AlikeAnswer T s t r q) :
    ∃ f u v, r = .next u ∧ q = .next v ∧ Alike T f u v := by
  cases h with
  | reported k taken hu hn hm => exact ⟨_, _, _, rfl, rfl, hu⟩
  | fatal e hu hn hm => exact ⟨_, _, _, rfl, rfl, hu⟩

/-! ### Instructions -/

namespace Alike

theorem loadFrom (hT : T.Sound) (h : Alike T s.fault s t) (dst : Reg8) (a len : Word) (k : Kind) :
    AlikeAnswer T s t (loadFrom dst a len (s.count k true) s) (loadFrom dst a len (t.count k true) t) := by
  simp only [Machine.loadFrom, readByte, h.peek hT]
  exact .reported k true (((h.noteRead a).setReg dst _).advance len _ _) rfl rfl

theorem storeTo (hT : T.Sound) (h : Alike T s.fault s t) (a : Word) (v : Byte) (len : Word) (k : Kind) :
    AlikeAnswer T s t (storeTo a v len (s.count k true) s) (storeTo a v len (t.count k true) t) :=
  (h.writeByte hT a v).answer k true (fun _ _ hu => hu.advance len _ _) (fun _ => rfl) (fun _ => rfl)

theorem pushAndJump (hT : T.Sound) (h : Alike T s.fault s t) (back target : Word) (k : Kind) :
    AlikeAnswer T s t (pushAndJump back target (s.count k true) s) (pushAndJump back target (t.count k true) t) :=
  (h.push16 hT back).answer k true (fun _ _ hu => hu.jumpTo target _ _) (fun _ => rfl) (fun _ => rfl)

theorem popAndJump (hT : T.Sound) (h : Alike T s.fault s t) (k : Kind) :
    AlikeAnswer T s t (popAndJump (s.count k true) s) (popAndJump (t.count k true) t) := by
  obtain ⟨hv, hu⟩ := h.pop16 hT
  simp only [Machine.popAndJump, hv]
  exact .reported k true (hu.jumpTo _ _ _) rfl rfl

/-- An instruction with a condition: the same branch is taken in both, and past it pc advances (R252, R255, R257, R259). -/
theorem cond (h : Alike T s.fault s t) (c : Bool) (len : Word) (k : Kind) {r q : Result} (htaken : AlikeAnswer T s t r q) :
    AlikeAnswer T s t (if c then r else .next (s.advance len (s.count k false)))
      (if c then q else .next (t.advance len (t.count k false))) := by
  cases c with
  | true => exact htaken
  | false => exact .reported k false (h.advance len _ _) rfl rfl

/-- A byte operation on a register or on the byte at HL: read, write back, then flags and pc (R189 to R192, R224 to R235). -/
theorem writeBack (hT : T.Sound) (h : Alike T s.fault s t) (d : Loc8) (k : Kind) (out : Byte → Byte)
    {g g' : Byte → State → State}
    (hg : ∀ x u v, Alike T s.fault u v → Alike T s.fault (g x u) (g' x v)) (hn : ∀ x u, (g x u).cycles = s.count k true)
    (hm : ∀ x v, (g' x v).cycles = t.count k true) :
    let x := Machine.readLoc d s
    let y := Machine.readLoc d t
    AlikeAnswer T s t ((Machine.writeLoc d (out x.1) x.2).map (g x.1)).result
      ((Machine.writeLoc d (out y.1) y.2).map (g' y.1)).result := by
  intro x y
  obtain ⟨hv, hu⟩ := h.readLoc hT d
  rw [show y.1 = x.1 from hv]
  exact (hu.writeLoc hT d _).answer k true (hg _) (hn _) (hm _)

/-- Every kind but that of the byte 0xCB, which stands for another, answers alike from states that are alike. -/
theorem runKind (hT : T.Sound) (k : Kind) (hk : ∀ op2, k ≠ .cbPrefix op2) (h : Alike T s.fault s t) :
    AlikeAnswer T s t (runKind k s) (runKind k t) := by
  obtain ⟨p, c, b, n, rfl⟩ := h.exists_twin
  cases k with
  | ldRegReg dst r => exact .reported _ _ ((h.setReg _ _).advance _ _ _) rfl rfl
  | ldRegImm dst n => exact .reported _ _ ((h.setReg _ _).advance _ _ _) rfl rfl
  | ldRegHL dst => exact h.loadFrom hT _ _ _ _
  | ldHLReg r => exact h.storeTo hT _ _ _ _
  | ldHLImm n => exact h.storeTo hT _ _ _ _
  | ldAPair q => cases q <;> exact h.loadFrom hT _ _ _ _
  | ldPairA q => cases q <;> exact h.storeTo hT _ _ _ _
  | ldAHLPost q =>
    simp only [Machine.runKind, loadAHLPost, readByte, h.peek hT]
    exact .reported _ _ ((((h.noteRead _).setReg _ _).setHL _).advance _ _ _) rfl rfl
  | ldHLPostA q =>
    exact (h.writeByte hT _ _).answer _ _ (fun _ _ hu => (hu.setHL _).advance _ _ _) (fun _ => rfl) (fun _ => rfl)
  | ldhImmA n => exact h.storeTo hT _ _ _ _
  | ldhAImm n => exact h.loadFrom hT _ _ _ _
  | ldhCA => exact h.storeTo hT _ _ _ _
  | ldhAC => exact h.loadFrom hT _ _ _ _
  | ldAbsA nn => exact h.storeTo hT _ _ _ _
  | ldAAbs nn => exact h.loadFrom hT _ _ _ _
  | ldPairImm q nn => exact .reported _ _ ((h.setPair _ _).advance _ _ _) rfl rfl
  | ldAbsSP nn =>
    exact (h.writeTwo hT _ _ _ _).answer _ _ (fun _ _ hu => hu.advance _ _ _) (fun _ => rfl) (fun _ => rfl)
  | ldSPHL => exact .reported _ _ ((h.setSp _).advance _ _ _) rfl rfl
  | ldHLSPe e => exact .reported _ _ (((h.setHL _).setFlags _).advance _ _ _) rfl rfl
  | push q =>
    cases q <;>
    exact (h.push16 hT _).answer _ _ (fun _ _ hu => hu.advance _ _ _) (fun _ => rfl) (fun _ => rfl)
  | pop q =>
    obtain ⟨hv, hu⟩ := h.pop16 hT
    simp only [Machine.runKind, popPair, hv]
    exact .reported _ _ ((hu.setStackPair _ _).advance _ _ _) rfl rfl
  | addSPe e => exact .reported _ _ (((h.setSp (s.sp + sext16 e)).setFlags (spAddFlags s.sp e)).advance _ _ _) rfl rfl
  | alu op v =>
    obtain ⟨hv, hu⟩ := h.readSrc hT v
    simp only [Machine.runKind, aluOp, hv]
    exact .reported _ _ (((hu.setReg _ _).setFlags _).advance _ _ _) rfl rfl
  | inc8 d =>
    exact h.writeBack hT d _ (fun x => (incResult x).1)
      (fun x _ _ hu => (hu.setFlags (incResult x).2).advance _ _ _) (fun _ _ => rfl) (fun _ _ => rfl)
  | dec8 d =>
    exact h.writeBack hT d _ (fun x => (decResult x).1)
      (fun x _ _ hu => (hu.setFlags (decResult x).2).advance _ _ _) (fun _ _ => rfl) (fun _ _ => rfl)
  | daa => exact .reported _ _ (((h.setReg _ _).setFlags _).advance _ _ _) rfl rfl
  | cpl => exact .reported _ _ (((h.setReg _ _).setFlags _).advance _ _ _) rfl rfl
  | scf => exact .reported _ _ ((h.setFlags _).advance _ _ _) rfl rfl
  | ccf => exact .reported _ _ ((h.setFlags _).advance _ _ _) rfl rfl
  | addHL q => cases q <;> exact .reported _ _ (((h.setHL _).setFlags _).advance _ _ _) rfl rfl
  | incPair q => cases q <;> exact .reported _ _ ((h.setPair _ _).advance _ _ _) rfl rfl
  | decPair q => cases q <;> exact .reported _ _ ((h.setPair _ _).advance _ _ _) rfl rfl
  | accRotate r => exact .reported _ _ (((h.setReg _ _).setFlags _).advance _ _ _) rfl rfl
  | cbRotate r d =>
    exact h.writeBack hT d _ (fun x => (rotateResult r x s.flags).1)
      (fun x _ _ hu => (hu.setFlags (rotateResult r x s.flags).2).advance _ _ _) (fun _ _ => rfl) (fun _ _ => rfl)
  | bitTest m d =>
    obtain ⟨hv, hu⟩ := h.readLoc hT d
    simp only [Machine.runKind, bitTestOp, hv]
    exact .reported _ _ ((hu.setFlags _).advance _ _ _) rfl rfl
  | bitReset m d =>
    exact h.writeBack hT d _ (fun x => clearBit x m) (fun _ _ _ hu => hu.advance _ _ _) (fun _ _ => rfl) (fun _ _ => rfl)
  | bitSet m d =>
    exact h.writeBack hT d _ (fun x => setBit x m) (fun _ _ _ hu => hu.advance _ _ _) (fun _ _ => rfl) (fun _ _ => rfl)
  | jp nn => exact .reported _ _ (h.jumpTo _ _ _) rfl rfl
  | jpCond cc nn => exact h.cond (cc.holds s.flags) _ _ (.reported _ _ (h.jumpTo _ _ _) rfl rfl)
  | jpHL => exact .reported _ _ (h.jumpTo _ _ _) rfl rfl
  | jr e => exact .reported _ _ (h.jumpTo _ _ _) rfl rfl
  | jrCond cc e => exact h.cond (cc.holds s.flags) _ _ (.reported _ _ (h.jumpTo _ _ _) rfl rfl)
  | call nn => exact h.pushAndJump hT _ _ _
  | callCond cc nn => exact h.cond (cc.holds s.flags) _ _ (h.pushAndJump hT _ _ _)
  | ret => exact h.popAndJump hT _
  | retCond cc => exact h.cond (cc.holds s.flags) _ _ (h.popAndJump hT _)
  | reti =>
    obtain ⟨hv, hu⟩ := h.pop16 hT
    simp only [Machine.runKind, returnInterrupt, returnFromInterrupt, hv]
    exact .reported _ _ ((hu.setIme true).jumpTo _ _ _) rfl rfl
  | rst y => exact h.pushAndJump hT _ _ _
  | nop => exact .reported _ _ (h.advance _ _ _) rfl rfl
  | halt => exact .reported _ _ ((h.setHalted true).advance _ _ _) rfl rfl
  | stop pad => exact .reported _ _ ((h.withStopped hT.stop).advance _ _ _) rfl rfl
  | di => exact .reported _ _ (((h.setIme false).setImeScheduled false).advance _ _ _) rfl rfl
  | ei => exact .reported _ _ ((h.setImeScheduled true).advance _ _ _) rfl rfl
  | cbPrefix op2 => exact absurd rfl (hk op2)
  | illegal op => exact .fatal _ (h.raise _) rfl rfl

theorem exec (hT : T.Sound) (i : Instr) {f : Option Fatal} (h : Alike T f s t) :
    AlikeAnswer T s t (exec i s) (exec i t) := by
  obtain rfl := h.latch
  rw [exec_eq_runKind_effKind, exec_eq_runKind_effKind]
  exact h.runKind hT _ (effKind_ne_cbPrefix i)

end Alike

end

end Sys2Proof.Machine
end

section
/-! Two steps side by side: where a tolerance lets neither the tables nor what PPU.step reads differ, every phase of a step
(R340) keeps two states alike and reports the same cycles. -/

namespace Sys2Proof.Machine

open Sys2Proof.Claims

/-- What a step asks of a tolerance besides: the parameters are the same, PPU.step stays within it, and a stall holds in both
states or in neither. -/
structure Tolerance.StepSound (T : Tolerance) : Prop extends T.Sound where
  sameCfg : ∀ {c d}, T.cfg c d → d = c
  step : ∀ {p q} n, T.ppu p q → T.ppu (p.step n).1 (q.step n).1
  stall : ∀ {c d a b}, T.cfg c d → T.stopped a b → (d.stopStalls && b) = (c.stopStalls && a)

/-- Two answers of one step: the states are alike and the cycles reported the same. -/
def AlikeStep (T : Tolerance) (r q : Result) : Prop :=
  ∃ f u v, r = .next u ∧ q = .next v ∧ Alike T f u v ∧ v.cycles = u.cycles

section
variable {T : Tolerance} {f : Option Fatal} {s t : State}

theorem Alike.count (hT : T.StepSound) (h : Alike T f s t) (k : Kind) (taken : Bool) : t.count k taken = s.count k taken :=
  State.count_congr (hT.sameCfg h.cfg) k taken

/-- Step 5: the same cycles drive two PPUs that raise the same request (R313, R351). -/
theorem Alike.finish (hT : T.StepSound) (h : Alike T f s t) (hn : t.cycles = s.cycles) (ext : IntSet) :
    AlikeStep T (.next (finishStep ext s)) (.next (finishStep ext t)) := by
  obtain ⟨ts, os, hviews⟩ := hT.views h.ppu
  have hreq : (t.ppu.step s.cycles).2 = (s.ppu.step s.cycles).2 := by rw [hviews, Ppu.step_withViews]
  have hiflags : t.iflags = s.iflags := by rw [h.twin]; rfl
  have hppu : T.ppu (s.ppu.step s.cycles).1 (t.ppu.step t.cycles).1 := by rw [hn]; exact hT.step _ h.ppu
  exact ⟨f, _, _, rfl, rfl, (h.withPpu hppu).setIflags (by rw [hn, hreq, hiflags]), hn⟩

/-- The dispatch as an access: what follows the push is done if no write was fatal (R347, R354). -/
theorem dispatchStep_eq (ext : IntSet) (s : State) :
    dispatchStep ext s = ((takeInterrupt s.pend s).map (finishStep ext)).result := by
  unfold dispatchStep
  cases takeInterrupt s.pend s <;> rfl

theorem AlikeAccess.finish (hT : T.StepSound) {r q : Access} (h : AlikeAccess T f r q) {g k : State → State}
    (hg : ∀ u v, Alike T f u v → Alike T f (g u) (k v) ∧ (k v).cycles = (g u).cycles) (ext : IntSet) :
    AlikeStep T ((r.map g).map (finishStep ext)).result ((q.map k).map (finishStep ext)).result := by
  cases h with
  | done hu => exact (hg _ _ hu).1.finish hT (hg _ _ hu).2 ext
  | fatal e hu hn hm => exact ⟨_, _, _, rfl, rfl, hu, hm.trans hn.symm⟩

/-- The state in which a dispatch pushes pc: interrupts off, the bit of source `n` cleared (R354). -/
def State.acknowledged (s : State) (n : Nat) : State :=
  { s with ime := false, imeScheduled := false, iflags := s.iflags &&& ~~~(1#5 <<< n) }

theorem takeInterrupt_eq (pend : IntSet) (s : State) :
    takeInterrupt pend s = (push16 s.pc (s.acknowledged (firstSource pend))).map fun u =>
      u.jumpTo (vectorOf (firstSource pend)) u.cfg.cycles.dispatch := rfl

theorem Alike.dispatchStep (hT : T.StepSound) (h : Alike T f s t) (ext : IntSet) :
    AlikeStep T (dispatchStep ext s) (dispatchStep ext t) := by
  have hpend : t.pend = s.pend := by rw [h.twin]; rfl
  have hpc : t.pc = s.pc := by rw [h.twin]; rfl
  have hcleared : Alike T f (s.acknowledged (firstSource s.pend)) (t.acknowledged (firstSource s.pend)) :=
    h.update (u := fun s => s.acknowledged _) (fun _ _ _ _ _ => rfl) h.latch
  rw [dispatchStep_eq, dispatchStep_eq, takeInterrupt_eq, takeInterrupt_eq, hpend, hpc]
  refine (hcleared.push16 hT.toSound s.pc).finish hT (fun u v hu => ⟨hu.jumpTo _ _ _, ?_⟩) ext
  rw [jumpTo_cycles, jumpTo_cycles, hT.sameCfg hu.cfg]

/-! ### The fetch and the instruction (R84, R340) -/

theorem Alike.fetch (hT : T.Sound) (h : Alike T f s t) :
    (fetch t).1 = (fetch s).1 ∧ Alike T f (fetch s).2 (fetch t).2 := by
  have hpc : t.pc = s.pc := by rw [h.twin]; rfl
  have h1 := h.noteRead s.pc
  have h2 := h1.noteRead (s.pc + 1)
  simp only [Machine.fetch, readByte, hpc, h.peek hT, h1.peek hT, h2.peek hT]
  split
  · exact ⟨rfl, h1⟩
  · exact ⟨rfl, h2⟩
  · exact ⟨rfl, h2.noteRead _⟩

theorem AlikeAnswer.alikeStep (hcount : ∀ k taken, t.count k taken = s.count k taken) {r q : Result}
    (h : AlikeAnswer T s t r q) : AlikeStep T r q := by
  cases h with
  | reported k taken hu hn hm => exact ⟨_, _, _, rfl, rfl, hu, by rw [hn, hm, hcount]⟩
  | fatal e hu hn hm => exact ⟨_, _, _, rfl, rfl, hu, hm.trans hn.symm⟩

theorem AlikeStep.afterInstr (hT : T.StepSound) {r q : Result} (h : AlikeStep T r q) (ext : IntSet) (pending : Bool) :
    AlikeStep T (afterInstr ext pending r) (afterInstr ext pending q) := by
  obtain ⟨f, u, v, rfl, rfl, hu, hn⟩ := h
  have hflip : Alike T f (flipIme pending u) (flipIme pending v) := hu.update (fun _ _ _ _ _ => rfl) hu.latch
  simp only [Machine.afterInstr, hu.fault]
  split
  · exact ⟨f, u, v, rfl, rfl, hu, hn⟩
  · exact hflip.finish hT hn ext

theorem Alike.instrStep (hT : T.StepSound) (h : Alike T f s t) (ext : IntSet) :
    AlikeStep T (instrStep ext s) (instrStep ext t) := by
  obtain ⟨hi, hu⟩ := h.fetch hT.toSound
  have hpending : t.imeScheduled = s.imeScheduled := by rw [h.twin]; rfl
  rw [Machine.instrStep, Machine.instrStep, hi, hpending]
  exact ((hu.exec hT.toSound _).alikeStep (hu.count hT)).afterInstr hT ext _

/-- The four things a step can be are the same four in both states, and each keeps them alike. -/
theorem Alike.step (hT : T.StepSound) (h : Alike T f s t) : AlikeStep T (step s) (step t) := by
  have hdrop : Alike T f s.dropExt t.dropExt := h.update (fun _ _ _ _ _ => rfl) h.latch
  have hwake : Alike T f s.dropExt.wakeTest t.dropExt.wakeTest := hdrop.update (fun _ _ _ _ _ => rfl) hdrop.latch
  have hext : t.nextExt = s.nextExt := by rw [h.twin]; rfl
  have hstalled : t.dropExt.stalled = s.dropExt.stalled := congrArg₂ _ (by rw [hdrop.fault]) (hT.stall h.cfg h.stopped)
  have htaken : (t.dropExt.ime && t.dropExt.pend != 0) = (s.dropExt.ime && s.dropExt.pend != 0) := by rw [h.twin]; rfl
  have hidle : t.dropExt.wakeTest.halted = s.dropExt.wakeTest.halted := by rw [h.twin]; rfl
  unfold Machine.step stepWith
  rw [hext, hstalled, htaken, hidle]
  split
  · exact ⟨f, _, _, rfl, rfl, hdrop.report 0 0, rfl⟩
  split
  · exact hwake.dispatchStep hT _
  split
  · exact (hwake.report _ _).finish hT (congrArg (·.cycles.idle) (hT.sameCfg hwake.cfg)) _
  · exact hwake.instrStep hT _

end

end Sys2Proof.Machine
end

section
/-! What does not influence a run: the derived views (R316), the cycle table (R396), and `stopped` where a stopped engine does
not stall (R367). -/

namespace Sys2Proof.Machine

open Sys2Proof.Claims

/-! ### The derived views -/

/-- The PPUs may differ in the tile cache and the object entries, and nothing else may differ. -/
def viewsDiffer : Tolerance where
  ppu p q := ∃ tiles objects, q = { p with tiles := tiles, objects := objects }
  cfg c d := d = c
  stopped a b := b = a

theorem viewsDiffer_stepSound : viewsDiffer.StepSound where
  views h := h
  writeVram i v := by
    rintro ⟨ts, os, rfl⟩
    exact ⟨_, os, rfl⟩
  writeOam i v := by
    rintro ⟨ts, os, rfl⟩
    exact ⟨ts, _, rfl⟩
  writeLcdc v := by
    rintro ⟨ts, os, rfl⟩
    exact ⟨ts, os, rfl⟩
  writeStat v := by
    rintro ⟨ts, os, rfl⟩
    exact ⟨ts, os, rfl⟩
  writeLyc v := by
    rintro ⟨ts, os, rfl⟩
    exact ⟨ts, os, rfl⟩
  table h := ⟨_, h⟩
  stop := rfl
  sameCfg h := h
  step n := by
    rintro ⟨ts, os, rfl⟩
    exact ⟨ts, os, by rw [Ppu.step_withViews]⟩
  stall hc hb := by rw [hc, hb]

theorem alike_of_withoutViews {s t : State} (h : withoutViews s = withoutViews t) : Alike viewsDiffer s.fault s t := by
  obtain ⟨ts, os, rfl⟩ : ∃ ts os, t = { s with ppu := { s.ppu with tiles := ts, objects := os } } :=
    ⟨_, _, congrArg (fun u : State => { u with ppu := { u.ppu with tiles := t.ppu.tiles, objects := t.ppu.objects } }) h.symm⟩
  exact ⟨rfl, ⟨ts, os, rfl⟩, rfl, rfl, rfl⟩

theorem withoutViews_of_alike {f : Option Fatal} {s t : State} (h : Alike viewsDiffer f s t) (hn : t.cycles = s.cycles) :
    withoutViews s = withoutViews t := by
  obtain ⟨ts, os, hppu⟩ := h.ppu
  rw [h.twin, hppu, show t.cfg = s.cfg from h.cfg, show t.stopped = s.stopped from h.stopped, hn]
  rfl

/-- Settles O56: no phase of a step reads a view, so that a difference in the views stays in the views. -/
theorem derivedViewsAreNotRead : Obligations.DerivedViewsAreNotRead := by
  unfold Obligations.DerivedViewsAreNotRead
  refine ⟨fun s s' t t' h hs hs' => ?_, rfl⟩
  obtain ⟨f, u, v, hu, hv, halike, hn⟩ := (alike_of_withoutViews h).step viewsDiffer_stepSound
  cases hs.symm.trans hu
  cases hs'.symm.trans hv
  exact withoutViews_of_alike halike hn

/-! ### Where the PPU is the same -/

/-- The PPU is the same, the parameters and `stopped` may differ as given. -/
def Tolerance.samePpu (cfg : Params → Params → Prop) (stopped : Bool → Bool → Prop) : Tolerance where
  ppu p q := q = p
  cfg := cfg
  stopped := stopped

theorem samePpu_sound {cfg : Params → Params → Prop} {stopped : Bool → Bool → Prop}
    (table : ∀ {c d}, cfg c d → ∃ cycles, d = { c with cycles := cycles }) (stop : stopped true true) :
    (Tolerance.samePpu cfg stopped).Sound where
  views := by
    rintro p _ rfl
    exact ⟨_, _, rfl⟩
  writeVram i v h := congrArg (Ppu.writeVram · i v) h
  writeOam i v h := congrArg (Ppu.writeOam · i v) h
  writeLcdc v h := congrArg (Ppu.writeLcdc · v) h
  writeStat v h := congrArg (Ppu.writeStat · v) h
  writeLyc v h := congrArg (Ppu.writeLyc · v) h
  table := table
  stop := stop

/-! ### The cycle table -/

/-- The parameters differ in the cycle table, the second state's being `table`. -/
def tableDiffers (table : CycleTable) : Tolerance := .samePpu (fun c d => d = { c with cycles := table }) fun a b => b = a

/-- Settles O55: executing an instruction asks the table for the report alone. -/
theorem cycleTableDoesNotInfluenceInstructions : Obligations.CycleTableDoesNotInfluenceInstructions := by
  unfold Obligations.CycleTableDoesNotInfluenceInstructions
  intro i s t table n hexec
  have hT : (tableDiffers table).Sound := samePpu_sound (fun h => ⟨_, h⟩) rfl
  have hstart : Alike (tableDiffers table) s.fault s (withTable table { s with cycles := n }) := ⟨rfl, rfl, rfl, rfl, rfl⟩
  obtain ⟨f, u, v, hu, hv, halike⟩ := (hstart.exec hT i).exists_alike
  cases hexec.symm.trans hu
  have hppu : v.ppu = t.ppu := halike.ppu
  have hcfg : v.cfg = { t.cfg with cycles := table } := halike.cfg
  have hstopped : v.stopped = t.stopped := halike.stopped
  refine ⟨v.cycles, ?_⟩
  rw [hv, halike.twin, hppu, hcfg, hstopped]
  rfl

/-! ### `stopped` without stalls -/

/-- `stopped` may differ, in machines that go on when stopped. -/
def stoppedDiffers : Tolerance := .samePpu (fun c d => d = c ∧ c.stopStalls = false) fun _ _ => True

theorem stoppedDiffers_stepSound : stoppedDiffers.StepSound where
  toSound := samePpu_sound (fun h => ⟨_, h.1⟩) trivial
  sameCfg h := h.1
  step n h := congrArg (fun p : Ppu => (p.step n).1) h
  stall hc _ := by rw [hc.1, hc.2]; rfl

/-- Settles O37: a stall is the first branch of the step, and only the stall test reads `stopped`. -/
theorem stoppedEngine : Obligations.StoppedEngine := by
  unfold Obligations.StoppedEngine
  refine ⟨fun s hfault hstalls hstopped => ?stall, fun s => ⟨rfl, rfl⟩, fun s b hgoes => ?goesOn, rfl⟩
  case stall =>
    have hstalled : s.dropExt.stalled = true := by simp [State.stalled, hstalls, hstopped]
    rw [step, stepWith, if_pos hstalled]
    rfl
  case goesOn =>
    have hstart : Alike stoppedDiffers s.fault s { s with stopped := b } := ⟨rfl, rfl, ⟨rfl, hgoes⟩, trivial, rfl⟩
    obtain ⟨f, t, u, ht, hu, halike, hn⟩ := hstart.step stoppedDiffers_stepSound
    refine ⟨t, u, ht, hu, ?_⟩
    have hppu : u.ppu = t.ppu := halike.ppu
    have hcfg : u.cfg = t.cfg := halike.cfg.1
    rw [halike.twin, hppu, hcfg, hn]
    rfl

end Sys2Proof.Machine
end

section
/-! The halted engine and the interrupt dispatch (R341, R352 to R357): which branch of the step is taken, and that the push of
a dispatch is the push of R164. -/

namespace Sys2Proof.Machine

open Sys2Proof.Claims

/-! ### The branches of a running step -/

theorem stalled_of_running {s : State} (h : Running s) : s.dropExt.stalled = false := by
  obtain ⟨hfault, hstall⟩ := h
  simpa [State.stalled, hfault] using hstall

/-- With an interrupt enabled, requested and allowed, the step is its dispatch (R353). -/
theorem step_of_dispatching {s : State} (h : Running s) (hime : s.ime = true) (hpend : pending s ≠ 0) :
    step s = dispatchStep (s.extIrq.headD 0) (atFetch s) := by
  have hpend' : s.dropExt.pend ≠ 0 := hpend
  have htaken : (s.dropExt.ime && s.dropExt.pend != 0) = true := by
    rw [dropExt_ime, hime, Bool.true_and, bne_iff_ne]
    exact hpend'
  have hwake : s.dropExt.wakeTest = atFetch s := by
    rw [State.wakeTest, beq_eq_false_iff_ne.2 hpend', Bool.and_false]
    rfl
  rw [step, stepWith, stalled_of_running h, htaken, hwake]
  rfl

/-- A halted engine with nothing pending idles (R341). -/
theorem step_of_idle {s : State} (h : Running s) (hhalted : s.halted = true) (hpend : pending s = 0) :
    step s = .next (settle s { s with extIrq := s.extIrq.tail, cycles := s.cfg.cycles.idle }) := by
  have hpend' : s.dropExt.pend = 0 := hpend
  have htaken : (s.dropExt.ime && s.dropExt.pend != 0) = false := by simp [hpend']
  have hwake : s.dropExt.wakeTest = { s with extIrq := s.extIrq.tail } := by
    rw [State.wakeTest, hpend', dropExt_halted, hhalted, ← hhalted]
    simp [State.dropExt]
  rw [step, stepWith, stalled_of_running h, htaken, hwake, hhalted]
  rfl

/-- Settles O34: the step reads `halted` after the wake test only, which clears it when something is pending. -/
theorem haltedEngine : Obligations.HaltedEngine := by
  unfold Obligations.HaltedEngine
  refine ⟨fun s => step_of_idle, fun s hrun hpend => ?wake, fun s t hrun hhalted hpend hs => ?idle, rfl⟩
  case wake =>
    have hbeq : (s.dropExt.pend == 0) = false := beq_eq_false_iff_ne.2 hpend
    have hwake : s.dropExt.wakeTest = ({ s with halted := false } : State).dropExt.wakeTest := by
      show ({ s.dropExt with halted := s.dropExt.halted && s.dropExt.pend == 0 } : State) =
        { s.dropExt with halted := false && s.dropExt.pend == 0 }
      rw [hbeq, Bool.and_false, Bool.and_false]
    rw [step, stepWith, stalled_of_running hrun, step, stepWith,
      stalled_of_running (s := { s with halted := false }) hrun, hwake]
    rfl
  case idle =>
    rw [step_of_idle hrun hhalted hpend] at hs
    cases hs
    exact ⟨rfl, rfl, rfl, rfl, hhalted⟩

/-! ### The dispatch -/

/-- The source serviced is the least one pending (R353). -/
theorem firstSource_eq : ∀ (pend : IntSet) (n : Nat), n < 5 → pend.getLsbD n = true →
    (∀ k, k < n → pend.getLsbD k = false) → firstSource pend = n := by
  decide

/-- Acknowledging source `n` clears bit `n` and no other (R354). -/
theorem getLsbD_acknowledged (v : IntSet) (n : Nat) {k : Nat} (hk : k < 5) :
    (v &&& ~~~(1#5 <<< n)).getLsbD k = (v.getLsbD k && decide (k ≠ n)) := by
  simp [← BitVec.twoPow_eq, hk]

/-- Settles O35: the dispatch is the push of pc from the acknowledged state, and step 5 after it if the push went through. -/
theorem interruptDispatch : Obligations.InterruptDispatch := by
  unfold Obligations.InterruptDispatch
  refine ⟨fun s n hrun hime hn hie hif hleast => ?_, rfl⟩
  have hpending (k : Nat) : (pending s).getLsbD k = (s.ie.getLsbD k && s.iflags.getLsbD k) := BitVec.getLsbD_and
  have hset : (pending s).getLsbD n = true := by rw [hpending, hie, hif]; rfl
  have hne : pending s ≠ 0 := fun h => by rw [h] at hset; simp at hset
  have hsource : firstSource (pending s) = n :=
    firstSource_eq _ n hn hset fun k hk => by rw [hpending]; simpa using hleast k hk
  refine ⟨(atFetch s).acknowledged n, rfl, fun k hk => getLsbD_acknowledged s.iflags n hk, ?_⟩
  have hstep : step s = ((push16 s.pc ((atFetch s).acknowledged n)).map fun u =>
      finishStep (s.extIrq.headD 0) (u.jumpTo (vectorOf n) u.cfg.cycles.dispatch)).result := by
    rw [step_of_dispatching hrun hime hne, dispatchStep_eq, takeInterrupt_eq,
      show (atFetch s).pend = pending s from rfl, hsource, Access.map_map]
    rfl
  refine storesTwo_of_push16 hstep ?_
  simp [State.pushed, settle, finishStep, State.jumpTo, vectorOf, State.acknowledged, atFetch]

end Sys2Proof.Machine
end

section
/-! How long a step is (R306, R347, R390, R395): a step either ends with nothing reported and the PPU as it was, or drives the
PPU by the count of what it did, which under the default table is at most 24 and so shorter than any mode. -/

namespace Sys2Proof.Machine

open Sys2Proof.Claims

/-! ### What a run compared with itself tells of its reports -/

/-- Nothing differs. -/
def nothingDiffers : Tolerance := .samePpu (fun c d => d = c) fun a b => b = a

theorem nothingDiffers_sound : nothingDiffers.Sound := samePpu_sound (fun h => ⟨_, h⟩) rfl

theorem alike_self (s : State) : Alike nothingDiffers s.fault s s := ⟨rfl, rfl, rfl, rfl, rfl⟩

theorem AlikeAccess.ends {T : Tolerance} {f : Option Fatal} {r q : Access} (h : AlikeAccess T f r q) :
    (∃ u, r = .done u ∧ u.fault = f) ∨ ∃ u, r = .fatal u ∧ u.cycles = 0 := by
  cases h with
  | done hu => exact .inl ⟨_, rfl, hu.latch⟩
  | fatal e hu hn hm => exact .inr ⟨_, rfl, hn⟩

/-- An instruction reports its table's count and leaves the latch, or sets the latch and reports nothing. -/
def Reports (s u : State) : Prop :=
  (u.fault = s.fault ∧ ∃ k taken, u.cycles = s.count k taken) ∨ (u.fault.isSome = true ∧ u.cycles = 0)

theorem AlikeAnswer.reports {T : Tolerance} {s t u : State} {r q : Result} (h : AlikeAnswer T s t r q) (hr : r = .next u) :
    Reports s u := by
  cases h with
  | reported k taken hu hn hm =>
    cases hr
    exact .inl ⟨hu.latch, k, taken, hn⟩
  | fatal e hu hn hm =>
    cases hr
    exact .inr ⟨by rw [hu.latch]; rfl, hn⟩

theorem reports_of_exec {i : Instr} {s u : State} (h : exec i s = .next u) : Reports s u :=
  ((alike_self s).exec nothingDiffers_sound i).reports h

/-! ### What a step does to the PPU's timing -/

/-- Two PPUs at the same point of a frame. -/
def Ppu.SameTiming (p q : Ppu) : Prop := q.mode = p.mode ∧ q.cycles = p.cycles ∧ q.ly = p.ly

/-- Bus writes move neither the PPU's timing nor the parameters. -/
theorem undriven_stable (s : State) : Stable fun u => s.ppu.SameTiming u.ppu ∧ u.cfg = s.cfg where
  core hs hp := by rwa [hs.ppu, hs.cfg]
  write a v _ hp := by simpa [Ppu.SameTiming] using hp

/-- The counts a step may report: of a dispatch, of an idle step, of an instruction (R395). -/
def State.MayReport (s : State) (n : Nat) : Prop :=
  n = s.cfg.cycles.dispatch ∨ n = s.cfg.cycles.idle ∨ ∃ k taken, n = s.count k taken

/-- How a step ends: with nothing reported and the PPU's timing as it was, or with the PPU driven by the cycles reported. -/
def StepEnds (s t : State) : Prop :=
  (t.cycles = 0 ∧ s.ppu.SameTiming t.ppu) ∨
    (t.fault = none ∧ s.MayReport t.cycles ∧ ∃ q, s.ppu.SameTiming q ∧ t.ppu = (q.step t.cycles).1)

theorem stepEnds_dispatchStep {s t : State} {ext : IntSet} (hfault : s.fault = none) (h : dispatchStep ext s = .next t) :
    StepEnds s t := by
  have hkeeps := (undriven_stable s).push16 (s := s.acknowledged (firstSource s.pend)) s.pc ⟨⟨rfl, rfl, rfl⟩, rfl⟩
  rw [dispatchStep_eq, takeInterrupt_eq, Access.map_map] at h
  obtain ⟨u, hu, hlatch⟩ | ⟨u, hu, hn⟩ :=
    ((alike_self (s.acknowledged (firstSource s.pend))).push16 nothingDiffers_sound s.pc).ends
  · rw [hu] at h hkeeps
    cases h
    exact .inr ⟨hlatch.trans hfault, .inl (congrArg (·.cycles.dispatch) hkeeps.2), _, hkeeps.1, rfl⟩
  · rw [hu] at h hkeeps
    cases h
    exact .inl ⟨hn, hkeeps.1⟩

theorem stepEnds_instrStep {s t : State} {ext : IntSet} (hfault : s.fault = none) (h : instrStep ext s = .next t) :
    StepEnds s t := by
  have hfetch := SameBus.fetch s
  obtain ⟨u, hexec⟩ := exists_exec_eq_next (fetch s).1 (fetch s).2
  obtain ⟨hkeeps, -⟩ := (undriven_stable s).exec_next hexec ((undriven_stable s).core hfetch ⟨⟨rfl, rfl, rfl⟩, rfl⟩)
  rw [instrStep, hexec] at h
  simp only [afterInstr] at h
  obtain ⟨hlatch, k, taken, hn⟩ | ⟨hlatch, hn⟩ := reports_of_exec hexec
  · rw [fetch_fault, hfault] at hlatch
    rw [if_neg (by simp [hlatch])] at h
    cases h
    exact .inr ⟨hlatch, .inr (.inr ⟨k, taken, hn.trans (State.count_congr hfetch.cfg k taken)⟩), _, hkeeps, rfl⟩
  · rw [if_pos hlatch] at h
    cases h
    exact .inl ⟨hn, hkeeps⟩

theorem stepEnds_step {s t : State} (h : step s = .next t) : StepEnds s t := by
  unfold step stepWith at h
  split at h
  case isTrue hstalled =>
    cases h
    exact .inl ⟨rfl, rfl, rfl, rfl⟩
  case isFalse hstalled =>
    have hfault : s.fault = none := by
      rw [← Option.not_isSome_iff_eq_none]
      exact fun hsome => hstalled (by simp [State.stalled, hsome])
    split at h
    · exact stepEnds_dispatchStep (s := s.dropExt.wakeTest) hfault h
    · split at h
      · cases h
        exact .inr ⟨hfault, .inr (.inl rfl), s.ppu, ⟨rfl, rfl, rfl⟩, rfl⟩
      · exact stepEnds_instrStep (s := s.dropExt.wakeTest) hfault h

/-! ### At most one transition -/

theorem mayReport_le {s : State} (hdefault : s.cfg.cycles = defaults) {n : Nat} (h : s.MayReport n) : n ≤ 24 := by
  obtain rfl | rfl | ⟨k, taken, rfl⟩ := h
  · rw [hdefault]; decide
  · rw [hdefault]; decide
  · rw [State.count_of_default hdefault]
    exact Kind.tableCycles_le k taken

/-- A transition reads the mode and LY only, as far as the next mode and LY go (R307 to R310). -/
theorem modeEnd_sameTiming {p q : Ppu} (h : p.SameTiming q) :
    q.modeEnd.1.mode = p.modeEnd.1.mode ∧ q.modeEnd.1.ly = p.modeEnd.1.ly := by
  obtain ⟨hmode, -, hly⟩ := h
  unfold Ppu.modeEnd
  rw [hmode, hly]
  cases hm : p.mode with
  | oamScan => exact ⟨rfl, rfl⟩
  | pixelTransfer => exact ⟨rfl, rfl⟩
  | hBlank => by_cases h144 : p.ly + 1 = 144 <;> simp only [h144, if_true, if_false, and_self]
  | vBlank => by_cases h153 : p.ly + 1 > 153 <;> simp only [h153, if_true, if_false, and_self]

/-- LY moves by at most one line, or from 153 to 0 (R309, R310). -/
theorem modeEnd_ly {p : Ppu} (h : p.LyOk) :
    p.modeEnd.1.ly = p.ly ∨ p.modeEnd.1.ly = p.ly + 1 ∨ (p.ly = 153 ∧ p.modeEnd.1.ly = 0) := by
  cases hm : p.mode with
  | oamScan => rw [Ppu.modeEnd_oamScan hm]; exact .inl rfl
  | pixelTransfer => rw [Ppu.modeEnd_pixelTransfer hm]; exact .inl rfl
  | hBlank =>
    unfold Ppu.modeEnd
    rw [hm]
    dsimp only
    split <;> exact .inr (.inl rfl)
  | vBlank =>
    obtain ⟨-, hle⟩ : 144 ≤ p.ly.toNat ∧ p.ly.toNat ≤ 153 := by simpa [Ppu.LyOk, hm] using h
    by_cases hlast : p.ly.toNat = 153
    · rw [Ppu.modeEnd_vBlank_last hm hlast]
      exact .inr (.inr ⟨BitVec.eq_of_toNat_eq hlast, rfl⟩)
    · rw [Ppu.modeEnd_vBlank hm rfl (by omega)]
      exact .inr (.inl (by bv_omega))

/-- Settles O49: at most 24 cycles are less than any mode lasts, so that a step that ends a mode ends within the next. -/
theorem atMostOneTransitionPerStep : Obligations.AtMostOneTransitionPerStep := by
  unfold Obligations.AtMostOneTransitionPerStep
  intro s t hdefault hcounter hly hs
  have hcounter' : s.ppu.cycles < s.ppu.mode.duration := hcounter
  obtain ⟨hn, hmode, hcycles, hline⟩ | ⟨hfault, hreport, q, hq, hppu⟩ := stepEnds_step hs
  · exact ⟨by omega, fun _ => hn, .inl ⟨by rwa [hn], hmode, hline, by rw [hn, hcycles]; rfl⟩⟩
  · have hle := mayReport_le hdefault hreport
    obtain ⟨hendMode, hendLy⟩ := modeEnd_sameTiming hq
    obtain ⟨hmode, hcycles, hline⟩ := hq
    refine ⟨hle, fun h => by simp [hfault] at h, ?_⟩
    by_cases hwithin : s.ppu.cycles + t.cycles < s.ppu.mode.duration
    · rw [hppu, Ppu.step_within (by rwa [hcycles, hmode])]
      exact .inl ⟨hwithin, hmode, hline, congrArg (· + t.cycles) hcycles⟩
    · obtain ⟨m, hm⟩ : ∃ m, s.ppu.cycles + t.cycles = s.ppu.mode.duration + m :=
        ⟨s.ppu.cycles + t.cycles - s.ppu.mode.duration, by omega⟩
      have h80 := PpuMode.duration_ge q.modeEnd.1.mode
      have hrest : (q.modeEnd.1.withCounter 0).cycles + m < (q.modeEnd.1.withCounter 0).mode.duration := by
        rw [Ppu.withCounter_cycles, Ppu.withCounter_mode]
        omega
      rw [hppu, Ppu.step_past (m := m) (by rw [hcycles, hmode, hm]), Ppu.step_within hrest]
      refine .inr ⟨hendMode, hendLy, ?_, ?_, ?_⟩
      · show 0 + m < 24
        omega
      · show 0 + m + s.ppu.mode.duration = _
        omega
      · show q.modeEnd.1.ly = _ ∨ q.modeEnd.1.ly = _ ∨ _ ∧ q.modeEnd.1.ly = _
        rw [hendLy]
        exact modeEnd_ly hly

end Sys2Proof.Machine
end

section
/-! The two PPU writes (R292 to R299): what is re-derived, pixel by pixel and field by field, and that nothing else is. -/

namespace Sys2Proof.Machine

/-! ### A tile row (R294, R295) -/

/-- A bit of a byte as a number. -/
theorem toNat_ofBool_getLsbD (b : Byte) (i : Nat) : (BitVec.ofBool (b.getLsbD i)).toNat = b.toNat / 2 ^ i % 2 := by
  rw [BitVec.toNat_ofBool]
  exact Nat.toNat_testBit b.toNat i

theorem tilePixel_toNat (b0 b1 : Byte) (col : Nat) :
    (tilePixel b0 b1 col).toNat = 2 * (b1.toNat / 2 ^ (7 - col) % 2) + b0.toNat / 2 ^ (7 - col) % 2 := by
  rw [tilePixel, toNat_append_add, toNat_ofBool_getLsbD, toNat_ofBool_getLsbD]
  omega

theorem col_tileRow (b0 b1 : Byte) (col : Fin 8) : (tileRow b0 b1).col col = tilePixel b0 b1 col := by
  fin_cases col <;> rfl

/-- The two bytes of the row a VRAM offset belongs to: the even offset at or below it and the next (R294). -/
theorem tileRowOf_own (vram : Memory) (i : Nat) :
    tileRowOf vram (i / 16) (i % 16 / 2) = tileRow (vram.read (i / 2 * 2)) (vram.read (i / 2 * 2 + 1)) := by
  rw [tileRowOf, show 16 * (i / 16) + 2 * (i % 16 / 2) = i / 2 * 2 by omega]

/-- Settles O43: the write re-derives the row of its byte, whose key is that of no other row. -/
theorem vramWriteRefreshesItsRow : Obligations.VramWriteRefreshesItsRow := by
  unfold Obligations.VramWriteRefreshesItsRow
  intro p i v hvram htiles _ q
  refine ⟨rfl, Memory.read_write_same hvram i v, fun j => Memory.read_write_other _ v, fun hi col => ?own,
    fun t row hrow hother => ?other⟩
  case own =>
    have hread : Cells.read zeroRow q.tiles (tileKey (i / 16) (i % 16 / 2)) =
        tileRow (q.vram.read (i / 2 * 2)) (q.vram.read (i / 2 * 2 + 1)) := by
      rw [← tileRowOf_own]
      show Cells.read zeroRow (refreshTile q.vram p.tiles i) _ = _
      rw [refreshTile, if_pos hi, Cells.read_write_same _ htiles]
    rw [hread, col_tileRow, tilePixel_toNat]
  case other =>
    show Cells.read zeroRow (refreshTile q.vram p.tiles i) _ = _
    unfold refreshTile
    split
    case isTrue hi => exact Cells.read_write_other _ _ _ (by unfold tileKey; omega)
    case isFalse => rfl

/-! ### An object entry (R298, R299) -/

/-- The tile index of an entry: bit 0 cleared in 8x16 mode (R299). -/
theorem and_sizeMask (b : Byte) (size16 : Bool) :
    b &&& (if size16 then 0xFE else 0xFF) = BitVec.ofNat 8 (if size16 then b.toNat / 2 * 2 else b.toNat) := by
  revert b size16
  decide

/-- The flags of an entry: the top four bits of the record's last byte (R298). -/
theorem extractLsb'_high_nibble (b : Byte) : b.extractLsb' 4 4 = BitVec.ofNat 4 (b.toNat / 16) := by
  apply BitVec.eq_of_toNat_eq
  simp [BitVec.extractLsb'_toNat, Nat.shiftRight_eq_div_pow]

/-- Settles O44: the write decodes its record with the size bit of that moment, and an LCDC write is one field. -/
theorem oamWriteDecodesItsRecord : Obligations.OamWriteDecodesItsRecord := by
  unfold Obligations.OamWriteDecodesItsRecord
  refine ⟨?write, fun p v => ⟨rfl, rfl, rfl⟩⟩
  intro p i v hoam hobjects _ q k tile
  refine ⟨rfl, Memory.read_write_same hoam i v, fun j => Memory.read_write_other _ v, ?own,
    fun j => Cells.read_write_other _ _ _⟩
  rw [← and_sizeMask, ← extractLsb'_high_nibble]
  exact Cells.read_write_same _ hobjects k _

end Sys2Proof.Machine
end

section
/-! Reset and construction (R346, R380, R381): the tile cache built from the listed VRAM bytes is the function of VRAM, and
an image laid out in storage reads back byte by byte. -/

namespace Sys2Proof.Machine

/-! ### The tile cache at reset (R296, R380) -/

/-- An offset that is not listed reads 0x00. -/
theorem Memory.read_of_unlisted {m : Memory} {k : Nat} (h : ∀ c ∈ m, c.1 ≠ k) : m.read k = unlistedByte := by
  induction m with
  | nil => rfl
  | cons c m ih =>
    obtain ⟨hc, hm⟩ := List.forall_mem_cons.1 h
    exact (if_neg hc.symm).trans (ih hm)

/-- Refreshing the rows of a list of offsets leaves a row right that is right already, and makes right each row met. -/
theorem read_foldl_refreshTile {vram : Memory} {t row : Nat} (ht : t < 384) (hrow : row < 8) (cells : List Host.Cell)
    {tiles : Cells TileRow} (hw : Cells.wf zeroRow tiles)
    (h : Cells.read zeroRow tiles (tileKey t row) = tileRowOf vram t row ∨
      ∃ c ∈ cells, c.1 / 16 = t ∧ c.1 % 16 / 2 = row) :
    Cells.read zeroRow (cells.foldl (fun ts cell => refreshTile vram ts cell.1) tiles) (tileKey t row) =
      tileRowOf vram t row := by
  induction cells generalizing tiles with
  | nil => simpa using h
  | cons c cells ih =>
    refine ih (Cells.wf_refreshTile hw vram c.1) ?_
    by_cases hown : c.1 / 16 = t ∧ c.1 % 16 / 2 = row
    · obtain ⟨rfl, rfl⟩ := hown
      left
      show Cells.read zeroRow (refreshTile vram tiles c.1) _ = _
      rw [refreshTile, if_pos (by omega), Cells.read_write_same _ hw]
    · refine h.imp (fun hread => ?_) fun ⟨d, hd, hrowd⟩ => ⟨d, ?_, hrowd⟩
      · show Cells.read zeroRow (refreshTile vram tiles c.1) _ = _
        rw [← hread, refreshTile]
        split
        · exact Cells.read_write_other _ _ _ (by unfold tileKey; omega)
        · rfl
      · exact (List.mem_cons.1 hd).resolve_left fun hdc => hown (hdc ▸ hrowd)

/-- The cache that reset computes is the function of VRAM: a row without a listed byte is a row of zeros. -/
theorem tilesOk_resetWith (vram oam : Memory) : (Ppu.resetWith vram oam).TilesOk := by
  intro t row ht hrow
  refine read_foldl_refreshTile ht hrow vram rfl ?_
  by_cases hlisted : ∃ c ∈ vram, c.1 / 16 = t ∧ c.1 % 16 / 2 = row
  · exact .inr hlisted
  · left
    have hbyte {k : Nat} (hk : k / 16 = t ∧ k % 16 / 2 = row) : vram.read k = unlistedByte :=
      Memory.read_of_unlisted fun c hc hck => hlisted ⟨c, hc, hck ▸ hk⟩
    show zeroRow = tileRowOf vram t row
    rw [tileRowOf, hbyte (by omega), hbyte (by omega)]
    rfl

/-- Settles O58: reset is a record of constants and parameters; only the tile cache in it is computed. -/
theorem resetState : Obligations.ResetState := by
  unfold Obligations.ResetState
  refine ⟨fun p => ?fields, fun p _ => tilesOk_resetWith _ _, fun s => rfl, rfl, rfl, fun k => rfl, rfl⟩
  exact ⟨rfl, rfl, rfl, rfl, rfl, rfl, rfl, rfl, rfl, rfl, rfl, rfl, rfl, rfl, rfl, fun k => rfl, rfl, rfl, rfl, rfl,
    rfl, rfl, rfl, rfl, rfl, rfl, rfl, rfl⟩

theorem decodeObject_nil (size16 : Bool) (k : Nat) : decodeObject [] size16 k = zeroObject := by
  simp [decodeObject, Memory.read, unlistedByte, zeroObject]

/-- Settles O59: at the default reset every array is empty, and an unlisted record decodes to the entry of zeros. -/
theorem resetMeetsTheInvariants : Obligations.ResetMeetsTheInvariants := by
  unfold Obligations.ResetMeetsTheInvariants
  exact ⟨rfl, rfl, tilesOk_resetWith _ _, fun k _ => ⟨false, (decodeObject_nil false k).symm⟩,
    show 0 < 80 by decide, show 0 < 144 by decide⟩

/-! ### Images (R346, R381) -/

theorem Memory.read_load_of_lt (m : Memory) {j k : Nat} (hj : j < k) (bs : List Byte) :
    (Memory.load m k bs).read j = m.read j := by
  induction bs generalizing m k with
  | nil => rfl
  | cons b bs ih =>
    rw [Memory.load, ih _ (by omega), Memory.read_write_other _ _ (by omega)]

/-- Byte `i` of a list laid out from offset `k` on stands at `k + i`. -/
theorem Memory.getElem?_load {m : Memory} (hw : m.wf = true) (k : Nat) {bs : List Byte} {i : Nat} (hi : i < bs.length) :
    bs[i]? = some ((Memory.load m k bs).read (k + i)) := by
  induction bs generalizing m k i with
  | nil => exact absurd hi (Nat.not_lt_zero i)
  | cons b bs ih =>
    rw [Memory.load]
    cases i with
    | zero =>
      exact congrArg some ((Memory.read_load_of_lt _ (Nat.lt_add_one k) bs).trans (Memory.read_write_same hw k b)).symm
    | succ i =>
      rw [List.getElem?_cons_succ, ih (Memory.wf_write hw k b) (k + 1) (Nat.lt_of_succ_lt_succ hi),
        Nat.add_assoc, Nat.add_comm 1]

/-- The parameters of a constructed block: the images as they are laid out (R381). -/
def imageParams (boot cart : List Byte) (p : Params) : Params :=
  { p with bootRom := Memory.load [] 0 boot, cartRom := Memory.load [] 0 (cart.take 0x8000) }

section
variable {boot cart : List Byte} (p : Params) {a : Word}

theorem peek_constructed_boot (hboot : boot.length = 256) (ha : a.toNat < 0x100) :
    boot[a.toNat]? = some ((State.resetWith (imageParams boot cart p)).peek a) := by
  rw [State.peek, target_bootRom rfl (by omega), Memory.getElem?_load (m := []) rfl 0 (by omega), Nat.zero_add]
  rfl

theorem peek_constructed_cart (hcart : 0x8000 ≤ cart.length) (hlow : 0x100 ≤ a.toNat) (ha : a.toNat < 0x8000) :
    cart[a.toNat]? = some ((State.resetWith (imageParams boot cart p)).peek a) := by
  rw [State.peek, target_cartRom (fun _ => hlow) (by omega), ← List.getElem?_take_of_lt ha,
    Memory.getElem?_load (m := []) rfl 0 (by rw [List.length_take]; omega), Nat.zero_add]
  rfl

end

/-- Settles O60: the two size checks come first, and the images read back from where construction lays them out. -/
theorem constructionChecksTheImages : Obligations.ConstructionChecksTheImages := by
  unfold Obligations.ConstructionChecksTheImages
  intro boot cart p
  refine ⟨fun h => if_pos h, fun h1 h2 => ?short, fun h1 h2 => ⟨State.resetWith (imageParams boot cart p), ?built, rfl,
    fun a => peek_constructed_boot p h1, fun a => peek_constructed_cart p h2⟩⟩
  case short => rw [construct, if_neg (by omega), if_pos h2]
  case built => rw [construct, if_neg (by omega), if_neg (by omega)]; rfl

end Sys2Proof.Machine
end
